-- ==== Sys2Proof/Word.lean ====
section
/-! DEFINITION. The word types of the block: registers, host addresses and operands are 32 bits
(00 R9), a host-memory cell is one byte (20 R60). -/

namespace Sys2Proof

/-- A u32 (00 R10): the contents of a register, a host byte address, the operand `DATA`. -/
abbrev Word := BitVec 32

/-- One byte of host memory, and one colour component. -/
abbrev Byte := BitVec 8

/-- A byte offset in the register window, `CMD[11:0]` (30 R81). -/
abbrev Offset := BitVec 12

end Sys2Proof
end

