-- ==== Sys2Proof/Config.lean ====
section
/-! DEFINITION. The configuration record of 00 R8 as plain data, with the domain names of 00 R12.
The values the spec defaults or leaves OPEN stand in Machine/Params.lean; the constraints on them in
WellFormed.lean. No free value is drawn (42 R205), so no constant here is opaque. -/

namespace Sys2Proof

/-- The non-global interrupt domains, `NonGlobal` of 00 R12. -/
inductive Domain where
  | video | audio | devio | rio | timer
deriving DecidableEq, Repr

/-- The domains whose sources are external collaborators (30 R83, 40 R124). -/
inductive Collab where
  | audio | devio | rio | timer
deriving DecidableEq, Repr

/-- A collaborator's domain, as a domain of `NonGlobal`. -/
def Collab.domain : Collab → Domain
  | .audio => .audio
  | .devio => .devio
  | .rio => .rio
  | .timer => .timer

/-- The internal sources of the VIDEO domain (00 R12). -/
inductive VideoSource where
  | dma | hsync | vsyncOdd | vsyncEven
deriving DecidableEq, Repr

/-- `GBIT` of 00 R8: the bit of global status of each domain. -/
structure GlobalBits where
  video : Fin 32
  audio : Fin 32
  devio : Fin 32
  rio : Fin 32
  timer : Fin 32
deriving DecidableEq, Repr

/-- `VBIT` of 00 R8: the bit of video status of each internal source. -/
structure VideoBits where
  dma : Fin 32
  hsync : Fin 32
  vsyncOdd : Fin 32
  vsyncEven : Fin 32
deriving DecidableEq, Repr

/-- `DOMAIN_REGS(D)` of 30 R87: the set addresses of a domain's status and enable. -/
structure DomainRegs where
  statusSet : Offset
  enableSet : Offset
deriving DecidableEq, Repr

/-- `DOMAIN_REGS`: a domain's registers, or `none` where the model declares them absent (30 R87). -/
structure DomainPlaces where
  audio : Option DomainRegs
  devio : Option DomainRegs
  rio : Option DomainRegs
  timer : Option DomainRegs
deriving DecidableEq, Repr

/-- The seven converter constants `CSC` (00 R8, 42 section 3). -/
structure CscConstants where
  yBlack : Int
  uvOffset : Int
  yRange : Int
  kr : Int
  kb : Int
  kgb : Int
  kgr : Int
deriving DecidableEq, Repr

/-- `CURSOR_INIT` of 00 R8: the pipeline-offset convention of 41 R171. -/
inductive CursorInit where
  | start | idx0 | idx1
deriving DecidableEq, Repr

/-- `BYTE_ORDER` of 00 R8: the order of the four bytes of a host-memory word (20 R63). -/
inductive ByteOrder where
  | big | little
deriving DecidableEq, Repr

/-- The configuration record of 00 R8. `coreBase` places the window for the platform; a transaction
carries the offset alone, so no rule reads it (20 R77). -/
structure Config where
  coreBase : Word
  chipIdValue : Word
  screenWidth : Nat
  screenHeight : Nat
  totalLines : Nat
  hAlign : Nat
  vAlign : Nat
  cursorInit : CursorInit
  gbit : GlobalBits
  vbit : VideoBits
  domainRegs : DomainPlaces
  csc : CscConstants
  byteOrder : ByteOrder
deriving DecidableEq, Repr

/-- `GBIT(D)`. -/
def GlobalBits.at (g : GlobalBits) : Domain → Fin 32
  | .video => g.video
  | .audio => g.audio
  | .devio => g.devio
  | .rio => g.rio
  | .timer => g.timer

/-- `VBIT(s)`. -/
def VideoBits.at (v : VideoBits) : VideoSource → Fin 32
  | .dma => v.dma
  | .hsync => v.hsync
  | .vsyncOdd => v.vsyncOdd
  | .vsyncEven => v.vsyncEven

/-- `DOMAIN_REGS(D)`, or `none` where the domain's registers are absent. -/
def DomainPlaces.at (p : DomainPlaces) : Collab → Option DomainRegs
  | .audio => p.audio
  | .devio => p.devio
  | .rio => p.rio
  | .timer => p.timer

/-- `WINDOW_BYTES` of 00 R8. -/
def windowBytes : Nat := 4096

/-- `BYTES_PER_PIXEL` of 00 R8, fixed at 2 (42 R212). -/
def bytesPerPixel : Nat := 2

/-- `CLEAR_OFFSET` of 00 R8, fixed at 0x100 (30 R86). -/
def clearOffset : Offset := 0x100#12

end Sys2Proof
end

