-- ==== Sys2Proof/Machine/Params.lean ====
section
/-! DEFINITION. The configuration the machine has at reset: the spec's defaults (00 R8) where it
gives one, and a named choice for each parameter it leaves OPEN (log entries 2 to 6). No statement
rests on a choice made here: claims quantify over the configuration. -/

namespace Sys2Proof

/-- `GBIT`, default of 00 R8. -/
def GlobalBits.default : GlobalBits := ⟨0, 1, 2, 3, 4⟩

/-- `VBIT`, default of 00 R8 (the spec marks it as general knowledge; log entry 4). -/
def VideoBits.default : VideoBits := ⟨2, 3, 4, 5⟩

/-- `CSC`, the values of 42 section 3. -/
def CscConstants.default : CscConstants :=
  { yBlack := 16, uvOffset := 128, yRange := 219
    kr := 0x166, kb := 0x1C7, kgb := 0x32, kgr := 0x83 }

/-- `DOMAIN_REGS`, OPEN in 00 R8: AUDIO as in W1 and TIMER as in P6 of 95_test_vectors.md, DEVIO and
RIO placed beside them. DESIGN CHOICE, log entry 3. -/
def DomainPlaces.default : DomainPlaces :=
  { audio := some ⟨0x180#12, 0x184#12⟩
    devio := some ⟨0x190#12, 0x194#12⟩
    rio := some ⟨0x1A0#12, 0x1A4#12⟩
    timer := some ⟨0x140#12, 0x144#12⟩ }

/-- The configuration at reset. `chipIdValue` and the screen are those of 95_test_vectors.md
section 0; they and `coreBase` are OPEN in 00 R8. DESIGN CHOICE, log entry 2. -/
def Config.default : Config :=
  { coreBase := 0#32
    chipIdValue := 0x12345678#32
    screenWidth := 16
    screenHeight := 4
    totalLines := 4
    hAlign := 8
    vAlign := 8
    cursorInit := .start
    gbit := GlobalBits.default
    vbit := VideoBits.default
    domainRegs := DomainPlaces.default
    csc := CscConstants.default
    byteOrder := .big }

end Sys2Proof
end

