-- ==== Sys2Proof/Syntax.lean ====
section
/-! DEFINITION. The transactions of the block: one constructor of `Instr` per row of
spec/opcode_table.json, and the transaction word that carries one (30 R80). -/

namespace Sys2Proof

/-- A transaction as it arrives (30 R80): the command word and the operand `DATA`. A kind that has no
operand ignores `data` (30 R96; log entry 16). -/
structure Transaction where
  cmd : BitVec 16
  data : Word
deriving DecidableEq, Repr

/-- The transactions of spec/opcode_table.json, in its order. -/
inductive Instr where
  /-- RD CHIP_ID (40 R104). -/
  | rdChipId
  /-- WR CHIP_ID (40 R105). -/
  | wrChipId (data : Word)
  /-- RD CHIP_CONTROL (40 R106). -/
  | rdChipControl
  /-- WR CHIP_CONTROL (40 R107). -/
  | wrChipControl (data : Word)
  /-- RD INT_STATUS (40 R108). -/
  | rdIntStatus
  /-- WR INT_STATUS (40 R109). -/
  | wrIntStatus (data : Word)
  /-- RD INT_ENABLE_S (40 R110). -/
  | rdIntEnableS
  /-- WR INT_ENABLE_S (40 R111). -/
  | wrIntEnableS (data : Word)
  /-- RD INT_STATUS_C (40 R114). -/
  | rdIntStatusC
  /-- WR INT_STATUS_C (40 R115). -/
  | wrIntStatusC (data : Word)
  /-- RD INT_ENABLE_C (40 R112). -/
  | rdIntEnableC
  /-- WR INT_ENABLE_C (40 R113). -/
  | wrIntEnableC (data : Word)
  /-- RD VID_CSTART (41 R141). -/
  | rdVidCstart
  /-- WR VID_CSTART (41 R142). -/
  | wrVidCstart (data : Word)
  /-- RD VID_CSIZE (41 R143). -/
  | rdVidCsize
  /-- WR VID_CSIZE (41 R144). -/
  | wrVidCsize (data : Word)
  /-- RD VID_CCNT (41 R145). -/
  | rdVidCcnt
  /-- WR VID_CCNT (41 R146). -/
  | wrVidCcnt (data : Word)
  /-- RD VID_NSTART (41 R147). -/
  | rdVidNstart
  /-- WR VID_NSTART (41 R148). -/
  | wrVidNstart (data : Word)
  /-- RD VID_NSIZE (41 R149). -/
  | rdVidNsize
  /-- WR VID_NSIZE (41 R150). -/
  | wrVidNsize (data : Word)
  /-- RD VID_DMACNTL (41 R151). -/
  | rdVidDmacntl
  /-- WR VID_DMACNTL (41 R152). -/
  | wrVidDmacntl (data : Word)
  /-- RD VID_FCNTL (41 R153). -/
  | rdVidFcntl
  /-- WR VID_FCNTL (41 R154). -/
  | wrVidFcntl (data : Word)
  /-- RD VID_BLNKCOL (41 R155). -/
  | rdVidBlnkcol
  /-- WR VID_BLNKCOL (41 R156). -/
  | wrVidBlnkcol (data : Word)
  /-- RD VID_HSTART (41 R157). -/
  | rdVidHstart
  /-- WR VID_HSTART (41 R158). -/
  | wrVidHstart (data : Word)
  /-- RD VID_HSIZE (41 R159). -/
  | rdVidHsize
  /-- WR VID_HSIZE (41 R160). -/
  | wrVidHsize (data : Word)
  /-- RD VID_VSTART (41 R161). -/
  | rdVidVstart
  /-- WR VID_VSTART (41 R162). -/
  | wrVidVstart (data : Word)
  /-- RD VID_VSIZE (41 R163). -/
  | rdVidVsize
  /-- WR VID_VSIZE (41 R164). -/
  | wrVidVsize (data : Word)
  /-- RD VID_HINTLINE (41 R165). -/
  | rdVidHintline
  /-- WR VID_HINTLINE (41 R166). -/
  | wrVidHintline (data : Word)
  /-- RD VID_CLINE (41 R167). -/
  | rdVidCline
  /-- WR VID_CLINE (41 R168). -/
  | wrVidCline (data : Word)
  /-- RD VID_INTSTAT_S (40 R116). -/
  | rdVidIntstatS
  /-- WR VID_INTSTAT_S (40 R117). -/
  | wrVidIntstatS (data : Word)
  /-- RD VID_INTEN_S (40 R120). -/
  | rdVidIntenS
  /-- WR VID_INTEN_S (40 R121). -/
  | wrVidIntenS (data : Word)
  /-- RD VID_INTSTAT_C (40 R118). -/
  | rdVidIntstatC
  /-- WR VID_INTSTAT_C (40 R119). -/
  | wrVidIntstatC (data : Word)
  /-- RD VID_INTEN_C (40 R122). -/
  | rdVidIntenC
  /-- WR VID_INTEN_C (40 R123). -/
  | wrVidIntenC (data : Word)
  /-- RD DOM_STATUS_S(D) (40 R116). -/
  | rdDomStatusS (d : Collab)
  /-- RD DOM_STATUS_C(D) (40 R118). -/
  | rdDomStatusC (d : Collab)
  /-- RD DOM_ENABLE_S(D) (40 R120). -/
  | rdDomEnableS (d : Collab)
  /-- RD DOM_ENABLE_C(D) (40 R122). -/
  | rdDomEnableC (d : Collab)
  /-- WR DOM_STATUS_S(D) (40 R117). -/
  | wrDomStatusS (d : Collab) (data : Word)
  /-- WR DOM_STATUS_C(D) (40 R119). -/
  | wrDomStatusC (d : Collab) (data : Word)
  /-- WR DOM_ENABLE_S(D) (40 R121). -/
  | wrDomEnableS (d : Collab) (data : Word)
  /-- WR DOM_ENABLE_C(D) (40 R123). -/
  | wrDomEnableC (d : Collab) (data : Word)
  /-- RAISE AUDIO (40 R124). -/
  | raiseAudio (data : Word)
  /-- LOWER AUDIO (40 R125). -/
  | lowerAudio (data : Word)
  /-- RAISE DEVIO (40 R124). -/
  | raiseDevio (data : Word)
  /-- LOWER DEVIO (40 R125). -/
  | lowerDevio (data : Word)
  /-- RAISE RIO (40 R124). -/
  | raiseRio (data : Word)
  /-- LOWER RIO (40 R125). -/
  | lowerRio (data : Word)
  /-- RAISE TIMER (40 R124). -/
  | raiseTimer (data : Word)
  /-- LOWER TIMER (40 R125). -/
  | lowerTimer (data : Word)
  /-- LINE (42 R190). -/
  | line
  /-- RESET (70 R270). -/
  | reset
  /-- RD RESERVED (40 R126). -/
  | rdReserved (offset : Offset)
  /-- WR RESERVED (40 R127). -/
  | wrReserved (offset : Offset) (data : Word)
  /-- REFUSED ReservedKind (30 R92). -/
  | refusedReservedKind (rest : BitVec 14)
  /-- REFUSED NotWordWidth (RD) (30 R92). -/
  | refusedNotWordWidthRd (width : BitVec 2) (offset : Offset)
  /-- REFUSED NotWordWidth (WR) (30 R92). -/
  | refusedNotWordWidthWr (width : BitVec 2) (offset : Offset)
  /-- REFUSED MisalignedOffset (RD) (30 R92). -/
  | refusedMisalignedOffsetRd (offset : Offset)
  /-- REFUSED MisalignedOffset (WR) (30 R92). -/
  | refusedMisalignedOffsetWr (offset : Offset)
  /-- REFUSED BadEvent (30 R92). -/
  | refusedBadEvent (zeroHi : BitVec 2) (ev : BitVec 4) (zeroLo : BitVec 5) (dom : BitVec 3)
  /-- REFUSED BadDomain (30 R92). -/
  | refusedBadDomain (ev : BitVec 4) (dom : BitVec 3)
deriving DecidableEq, Repr

end Sys2Proof
end

