-- ==== Sys2Proof/Machine/RegisterMap.lean ====
section
/-! DEFINITION. The register map of the core window: the fixed rows of 30 R84 and R85 and the
parametric rows of 30 R87, and the look-up of an offset in decode order (30 R90 (3), (4), (5)), with the conditions under which an event is
refused (30 R90 (6)). -/

namespace Sys2Proof

/-- The four addresses of a domain's status and enable pair (30 R86, R87). -/
inductive PairReg where
  | statusSet | statusClear | enableSet | enableClear
deriving DecidableEq, Repr

/-- A mapped word slot of the window: a row of 30 R84 or R85, or a collaborator domain's (30 R87). -/
inductive Slot where
  | chipId
  | chipControl
  | intStatus
  | intEnableS
  | intStatusC
  | intEnableC
  | vidCstart
  | vidCsize
  | vidCcnt
  | vidNstart
  | vidNsize
  | vidDmacntl
  | vidFcntl
  | vidBlnkcol
  | vidHstart
  | vidHsize
  | vidVstart
  | vidVsize
  | vidHintline
  | vidCline
  | vidIntstatS
  | vidIntenS
  | vidIntstatC
  | vidIntenC
  | dom (d : Collab) (r : PairReg)
deriving DecidableEq, Repr

/-- The fixed rows of the map, 30 R84 then R85. -/
def registerMap : List (Offset × Slot) :=
  [ (0x000#12, .chipId)
  , (0x004#12, .chipControl)
  , (0x008#12, .intStatus)
  , (0x00C#12, .intEnableS)
  , (0x108#12, .intStatusC)
  , (0x10C#12, .intEnableC)
  , (0x300#12, .vidCstart)
  , (0x304#12, .vidCsize)
  , (0x308#12, .vidCcnt)
  , (0x30C#12, .vidNstart)
  , (0x310#12, .vidNsize)
  , (0x314#12, .vidDmacntl)
  , (0x318#12, .vidFcntl)
  , (0x31C#12, .vidBlnkcol)
  , (0x320#12, .vidHstart)
  , (0x324#12, .vidHsize)
  , (0x328#12, .vidVstart)
  , (0x32C#12, .vidVsize)
  , (0x330#12, .vidHintline)
  , (0x334#12, .vidCline)
  , (0x338#12, .vidIntstatS)
  , (0x33C#12, .vidIntenS)
  , (0x438#12, .vidIntstatC)
  , (0x43C#12, .vidIntenC) ]

/-- The four rows of one collaborator domain; the clear addresses lie `clearOffset` above (30 R87). -/
def domainRows (d : Collab) : Option DomainRegs → List (Offset × Slot)
  | none => []
  | some r =>
    [ (r.statusSet, .dom d .statusSet)
    , (r.statusSet + clearOffset, .dom d .statusClear)
    , (r.enableSet, .dom d .enableSet)
    , (r.enableSet + clearOffset, .dom d .enableClear) ]

/-- The rows of every domain that `DOMAIN_REGS` maps. -/
def domainMap (p : DomainPlaces) : List (Offset × Slot) :=
  domainRows .audio p.audio ++ (domainRows .devio p.devio
    ++ (domainRows .rio p.rio ++ domainRows .timer p.timer))

/-- The slot at an offset: the fixed rows first, then the domains' (30 R90 (3), (4)); `none` is a
reserved offset (30 R91). -/
def slotAt (cfg : Config) (offset : Offset) : Option Slot :=
  (registerMap ++ domainMap cfg.domainRegs).lookup offset

/-- The offset of a collaborator domain's register; 0 where the domain is absent. -/
def domainOffset (cfg : Config) (d : Collab) (r : PairReg) : Offset :=
  match cfg.domainRegs.at d with
  | none => 0#12
  | some regs =>
    match r with
    | .statusSet => regs.statusSet
    | .statusClear => regs.statusSet + clearOffset
    | .enableSet => regs.enableSet
    | .enableClear => regs.enableSet + clearOffset

/-- `OFFSET[1:0] = 00`: the offset is a multiple of 4 (30 R81, 20 R65). -/
def wordAligned (offset : Offset) : Bool := offset.extractLsb' 0 2 == 0#2

/-- The condition of a BadEvent: a nonzero must-be-zero field or a reserved `EV` (30 R90 (6)). -/
def badEventFields (zeroHi : BitVec 2) (ev : BitVec 4) (zeroLo : BitVec 5) : Bool :=
  zeroHi != 0#2 || zeroLo != 0#5 || 0b0011#4 < ev

/-- The condition of a BadDomain, for an `EV` that is not reserved: `DOM` other than `000` for LINE
and RESET, outside `010`..`101` for RAISE and LOWER (30 R83, R90 (6)). -/
def badDomainFields (ev : BitVec 4) (dom : BitVec 3) : Bool :=
  if ev == 0b0000#4 || ev == 0b0011#4 then dom != 0b000#3
  else dom < 0b010#3 || 0b101#3 < dom

end Sys2Proof
end

