-- ==== Sys2Proof/WellFormed.lean ====
section
/-! DEFINITION. The admissible configurations (00 R8, 30 R87) and the well-formed transactions: those
that some command word stands for under a configuration (30 R81 to R83, R90, R91). -/

namespace Sys2Proof

/-- A number is a power of two. -/
abbrev PowerOfTwo (n : Nat) : Prop := 2 ^ n.log2 = n

/-- Screen parameters: the width even and at least 2, the height at least 1, and at least as many
lines as visible lines (00 R8); a line number fits in 32 bits (`zext_32`, 00 R11; log entry 17). -/
abbrev Config.ScreenOk (c : Config) : Prop :=
  2 ≤ c.screenWidth ∧ c.screenWidth % 2 = 0 ∧ 1 ≤ c.screenHeight
    ∧ c.screenHeight ≤ c.totalLines ∧ c.totalLines ≤ 2 ^ 32

/-- `GBIT` and `VBIT` are injective (00 R8). -/
abbrev Config.BitsOk (c : Config) : Prop :=
  [c.gbit.video, c.gbit.audio, c.gbit.devio, c.gbit.rio, c.gbit.timer].Nodup
    ∧ [c.vbit.dma, c.vbit.hsync, c.vbit.vsyncOdd, c.vbit.vsyncEven].Nodup

/-- A domain's set and clear offsets are multiples of 4 inside the window (30 R87). -/
abbrev DomainRegs.InWindow (r : DomainRegs) : Prop :=
  wordAligned r.statusSet = true ∧ r.statusSet.toNat + clearOffset.toNat < windowBytes
    ∧ wordAligned r.enableSet = true ∧ r.enableSet.toNat + clearOffset.toNat < windowBytes

/-- Every mapped domain's offsets lie in the window. -/
abbrev Config.PlacesInWindow (c : Config) : Prop :=
  ∀ r ∈ [c.domainRegs.audio, c.domainRegs.devio, c.domainRegs.rio, c.domainRegs.timer].reduceOption,
    DomainRegs.InWindow r

/-- The offsets of 30 R84, R85 and R87 are distinct (30 R87). -/
abbrev Config.OffsetsDistinct (c : Config) : Prop :=
  ((registerMap ++ domainMap c.domainRegs).map Prod.fst).Nodup

/-- An admissible configuration (00 R8, 30 R87). The converter's divisor is not zero (log entry 17). -/
abbrev Config.Wf (c : Config) : Prop :=
  c.ScreenOk ∧ PowerOfTwo c.hAlign ∧ PowerOfTwo c.vAlign ∧ c.BitsOk ∧ c.PlacesInWindow
    ∧ c.OffsetsDistinct ∧ c.csc.yRange ≠ 0

/-- The transactions that some command word stands for under a configuration. A row whose command is
fixed always is; a domain's row needs the domain mapped (30 R87); a reserved row a word-aligned offset
that nothing maps (30 R91); a refused row its class of 30 R90. -/
def Instr.wf (cfg : Config) : Instr → Bool
  | .rdDomStatusS d | .rdDomStatusC d | .rdDomEnableS d | .rdDomEnableC d
  | .wrDomStatusS d _ | .wrDomStatusC d _ | .wrDomEnableS d _ | .wrDomEnableC d _ =>
    (cfg.domainRegs.at d).isSome
  | .rdReserved offset | .wrReserved offset _ =>
    wordAligned offset && (slotAt cfg offset).isNone
  | .refusedNotWordWidthRd width _ | .refusedNotWordWidthWr width _ => width != 0#2
  | .refusedMisalignedOffsetRd offset | .refusedMisalignedOffsetWr offset => !wordAligned offset
  | .refusedBadEvent zeroHi ev zeroLo _ => badEventFields zeroHi ev zeroLo
  | .refusedBadDomain ev dom => ev ≤ 0b0011#4 && badDomainFields ev dom
  | .rdChipId | .wrChipId _ | .rdChipControl | .wrChipControl _ | .rdIntStatus | .wrIntStatus _
  | .rdIntEnableS | .wrIntEnableS _ | .rdIntStatusC | .wrIntStatusC _ | .rdIntEnableC
  | .wrIntEnableC _ | .rdVidCstart | .wrVidCstart _ | .rdVidCsize | .wrVidCsize _ | .rdVidCcnt
  | .wrVidCcnt _ | .rdVidNstart | .wrVidNstart _ | .rdVidNsize | .wrVidNsize _ | .rdVidDmacntl
  | .wrVidDmacntl _ | .rdVidFcntl | .wrVidFcntl _ | .rdVidBlnkcol | .wrVidBlnkcol _ | .rdVidHstart
  | .wrVidHstart _ | .rdVidHsize | .wrVidHsize _ | .rdVidVstart | .wrVidVstart _ | .rdVidVsize
  | .wrVidVsize _ | .rdVidHintline | .wrVidHintline _ | .rdVidCline | .wrVidCline _
  | .rdVidIntstatS | .wrVidIntstatS _ | .rdVidIntenS | .wrVidIntenS _ | .rdVidIntstatC
  | .wrVidIntstatC _ | .rdVidIntenC | .wrVidIntenC _
  | .raiseAudio _ | .lowerAudio _ | .raiseDevio _ | .lowerDevio _ | .raiseRio _ | .lowerRio _
  | .raiseTimer _ | .lowerTimer _ | .line | .reset | .refusedReservedKind _ => true

end Sys2Proof
end

