-- ==== Sys2Proof/Decode.lean ====
section
/-! DEFINITION. The decoder, total on every command word (30 R90): a refused command decodes to the
constructor of its refusal class, so each is rejected by its own name. After it the encoder, written
from the `CMD` words of spec/opcode_table.json, and the host's table reading. -/

namespace Sys2Proof

/-- The read of a mapped slot (30 R84, R85, R87). -/
def readOf : Slot → Instr
  | .chipId => .rdChipId
  | .chipControl => .rdChipControl
  | .intStatus => .rdIntStatus
  | .intEnableS => .rdIntEnableS
  | .intStatusC => .rdIntStatusC
  | .intEnableC => .rdIntEnableC
  | .vidCstart => .rdVidCstart
  | .vidCsize => .rdVidCsize
  | .vidCcnt => .rdVidCcnt
  | .vidNstart => .rdVidNstart
  | .vidNsize => .rdVidNsize
  | .vidDmacntl => .rdVidDmacntl
  | .vidFcntl => .rdVidFcntl
  | .vidBlnkcol => .rdVidBlnkcol
  | .vidHstart => .rdVidHstart
  | .vidHsize => .rdVidHsize
  | .vidVstart => .rdVidVstart
  | .vidVsize => .rdVidVsize
  | .vidHintline => .rdVidHintline
  | .vidCline => .rdVidCline
  | .vidIntstatS => .rdVidIntstatS
  | .vidIntenS => .rdVidIntenS
  | .vidIntstatC => .rdVidIntstatC
  | .vidIntenC => .rdVidIntenC
  | .dom d .statusSet => .rdDomStatusS d
  | .dom d .statusClear => .rdDomStatusC d
  | .dom d .enableSet => .rdDomEnableS d
  | .dom d .enableClear => .rdDomEnableC d

/-- The write of `DATA` to a mapped slot (30 R84, R85, R87). -/
def writeOf (data : Word) : Slot → Instr
  | .chipId => .wrChipId data
  | .chipControl => .wrChipControl data
  | .intStatus => .wrIntStatus data
  | .intEnableS => .wrIntEnableS data
  | .intStatusC => .wrIntStatusC data
  | .intEnableC => .wrIntEnableC data
  | .vidCstart => .wrVidCstart data
  | .vidCsize => .wrVidCsize data
  | .vidCcnt => .wrVidCcnt data
  | .vidNstart => .wrVidNstart data
  | .vidNsize => .wrVidNsize data
  | .vidDmacntl => .wrVidDmacntl data
  | .vidFcntl => .wrVidFcntl data
  | .vidBlnkcol => .wrVidBlnkcol data
  | .vidHstart => .wrVidHstart data
  | .vidHsize => .wrVidHsize data
  | .vidVstart => .wrVidVstart data
  | .vidVsize => .wrVidVsize data
  | .vidHintline => .wrVidHintline data
  | .vidCline => .wrVidCline data
  | .vidIntstatS => .wrVidIntstatS data
  | .vidIntenS => .wrVidIntenS data
  | .vidIntstatC => .wrVidIntstatC data
  | .vidIntenC => .wrVidIntenC data
  | .dom d .statusSet => .wrDomStatusS d data
  | .dom d .statusClear => .wrDomStatusC d data
  | .dom d .enableSet => .wrDomEnableS d data
  | .dom d .enableClear => .wrDomEnableC d data

/-- A read command, `KIND = 00` (30 R90 (2) to (5)). -/
def decodeRead (cfg : Config) (width : BitVec 2) (offset : Offset) : Instr :=
  if width != 0b00#2 then .refusedNotWordWidthRd width offset
  else if !wordAligned offset then .refusedMisalignedOffsetRd offset
  else
    match slotAt cfg offset with
    | some slot => readOf slot
    | none => .rdReserved offset

/-- A write command, `KIND = 01` (30 R90 (2) to (5)). -/
def decodeWrite (cfg : Config) (width : BitVec 2) (offset : Offset) (data : Word) : Instr :=
  if width != 0b00#2 then .refusedNotWordWidthWr width offset
  else if !wordAligned offset then .refusedMisalignedOffsetWr offset
  else
    match slotAt cfg offset with
    | some slot => writeOf data slot
    | none => .wrReserved offset data

/-- RAISE of a collaborator's domain, `DOM` in `010`..`101` (30 R83). -/
def raiseOf (dom : BitVec 3) (data : Word) : Instr :=
  if dom == 0b010#3 then .raiseAudio data
  else if dom == 0b011#3 then .raiseDevio data
  else if dom == 0b100#3 then .raiseRio data
  else .raiseTimer data

/-- LOWER of a collaborator's domain, `DOM` in `010`..`101` (30 R83). -/
def lowerOf (dom : BitVec 3) (data : Word) : Instr :=
  if dom == 0b010#3 then .lowerAudio data
  else if dom == 0b011#3 then .lowerDevio data
  else if dom == 0b100#3 then .lowerRio data
  else .lowerTimer data

/-- An event command, `KIND = 10` (30 R82, R90 (6)); a command with several defects is a BadEvent
before it is a BadDomain (log entry 15). -/
def decodeEvent (zeroHi : BitVec 2) (ev : BitVec 4) (zeroLo : BitVec 5) (dom : BitVec 3)
    (data : Word) : Instr :=
  if badEventFields zeroHi ev zeroLo then .refusedBadEvent zeroHi ev zeroLo dom
  else if badDomainFields ev dom then .refusedBadDomain ev dom
  else if ev == 0b0000#4 then .line
  else if ev == 0b0001#4 then raiseOf dom data
  else if ev == 0b0010#4 then lowerOf dom data
  else .reset

/-- The decoder: fields of `CMD` by 30 R81 and R82, order by 30 R90. -/
def decode (cfg : Config) (t : Transaction) : Instr :=
  let kind := t.cmd.extractLsb' 14 2
  let width := t.cmd.extractLsb' 12 2
  let offset := t.cmd.extractLsb' 0 12
  if kind == 0b11#2 then .refusedReservedKind (t.cmd.extractLsb' 0 14)
  else if kind == 0b10#2 then
    decodeEvent width (t.cmd.extractLsb' 8 4) (t.cmd.extractLsb' 3 5) (t.cmd.extractLsb' 0 3) t.data
  else if kind == 0b01#2 then decodeWrite cfg width offset t.data
  else decodeRead cfg width offset

/-- A command with no operand. -/
def bare (cmd : BitVec 16) : Transaction := ⟨cmd, 0#32⟩

/-- The command of a register access: `KIND`, `WIDTH`, `OFFSET` (30 R81). -/
def accessCmd (kind width : BitVec 2) (offset : Offset) : BitVec 16 := kind ++ (width ++ offset)

/-- The command of an event: `KIND = 10`, the must-be-zero fields, `EV`, `DOM` (30 R82). -/
def eventCmd (zeroHi : BitVec 2) (ev : BitVec 4) (zeroLo : BitVec 5) (dom : BitVec 3) : BitVec 16 :=
  0b10#2 ++ (zeroHi ++ (ev ++ (zeroLo ++ dom)))

/-- The read of a collaborator domain's register (30 R87). -/
def domainRead (cfg : Config) (d : Collab) (r : PairReg) : Transaction :=
  bare (accessCmd 0b00#2 0b00#2 (domainOffset cfg d r))

/-- The write of a collaborator domain's register (30 R87). -/
def domainWrite (cfg : Config) (d : Collab) (r : PairReg) (data : Word) : Transaction :=
  ⟨accessCmd 0b01#2 0b00#2 (domainOffset cfg d r), data⟩

/-- The encoder: the command and operand of a well-formed transaction. -/
def encode (cfg : Config) : Instr → Transaction
  | .rdChipId => bare 0x0000#16
  | .wrChipId data => ⟨0x4000#16, data⟩
  | .rdChipControl => bare 0x0004#16
  | .wrChipControl data => ⟨0x4004#16, data⟩
  | .rdIntStatus => bare 0x0008#16
  | .wrIntStatus data => ⟨0x4008#16, data⟩
  | .rdIntEnableS => bare 0x000C#16
  | .wrIntEnableS data => ⟨0x400C#16, data⟩
  | .rdIntStatusC => bare 0x0108#16
  | .wrIntStatusC data => ⟨0x4108#16, data⟩
  | .rdIntEnableC => bare 0x010C#16
  | .wrIntEnableC data => ⟨0x410C#16, data⟩
  | .rdVidCstart => bare 0x0300#16
  | .wrVidCstart data => ⟨0x4300#16, data⟩
  | .rdVidCsize => bare 0x0304#16
  | .wrVidCsize data => ⟨0x4304#16, data⟩
  | .rdVidCcnt => bare 0x0308#16
  | .wrVidCcnt data => ⟨0x4308#16, data⟩
  | .rdVidNstart => bare 0x030C#16
  | .wrVidNstart data => ⟨0x430C#16, data⟩
  | .rdVidNsize => bare 0x0310#16
  | .wrVidNsize data => ⟨0x4310#16, data⟩
  | .rdVidDmacntl => bare 0x0314#16
  | .wrVidDmacntl data => ⟨0x4314#16, data⟩
  | .rdVidFcntl => bare 0x0318#16
  | .wrVidFcntl data => ⟨0x4318#16, data⟩
  | .rdVidBlnkcol => bare 0x031C#16
  | .wrVidBlnkcol data => ⟨0x431C#16, data⟩
  | .rdVidHstart => bare 0x0320#16
  | .wrVidHstart data => ⟨0x4320#16, data⟩
  | .rdVidHsize => bare 0x0324#16
  | .wrVidHsize data => ⟨0x4324#16, data⟩
  | .rdVidVstart => bare 0x0328#16
  | .wrVidVstart data => ⟨0x4328#16, data⟩
  | .rdVidVsize => bare 0x032C#16
  | .wrVidVsize data => ⟨0x432C#16, data⟩
  | .rdVidHintline => bare 0x0330#16
  | .wrVidHintline data => ⟨0x4330#16, data⟩
  | .rdVidCline => bare 0x0334#16
  | .wrVidCline data => ⟨0x4334#16, data⟩
  | .rdVidIntstatS => bare 0x0338#16
  | .wrVidIntstatS data => ⟨0x4338#16, data⟩
  | .rdVidIntenS => bare 0x033C#16
  | .wrVidIntenS data => ⟨0x433C#16, data⟩
  | .rdVidIntstatC => bare 0x0438#16
  | .wrVidIntstatC data => ⟨0x4438#16, data⟩
  | .rdVidIntenC => bare 0x043C#16
  | .wrVidIntenC data => ⟨0x443C#16, data⟩
  | .rdDomStatusS d => domainRead cfg d .statusSet
  | .rdDomStatusC d => domainRead cfg d .statusClear
  | .rdDomEnableS d => domainRead cfg d .enableSet
  | .rdDomEnableC d => domainRead cfg d .enableClear
  | .wrDomStatusS d data => domainWrite cfg d .statusSet data
  | .wrDomStatusC d data => domainWrite cfg d .statusClear data
  | .wrDomEnableS d data => domainWrite cfg d .enableSet data
  | .wrDomEnableC d data => domainWrite cfg d .enableClear data
  | .raiseAudio data => ⟨0x8102#16, data⟩
  | .lowerAudio data => ⟨0x8202#16, data⟩
  | .raiseDevio data => ⟨0x8103#16, data⟩
  | .lowerDevio data => ⟨0x8203#16, data⟩
  | .raiseRio data => ⟨0x8104#16, data⟩
  | .lowerRio data => ⟨0x8204#16, data⟩
  | .raiseTimer data => ⟨0x8105#16, data⟩
  | .lowerTimer data => ⟨0x8205#16, data⟩
  | .line => bare 0x8000#16
  | .reset => bare 0x8300#16
  | .rdReserved offset => bare (accessCmd 0b00#2 0b00#2 offset)
  | .wrReserved offset data => ⟨accessCmd 0b01#2 0b00#2 offset, data⟩
  | .refusedReservedKind rest => bare (0b11#2 ++ rest)
  | .refusedNotWordWidthRd width offset => bare (accessCmd 0b00#2 width offset)
  | .refusedNotWordWidthWr width offset => bare (accessCmd 0b01#2 width offset)
  | .refusedMisalignedOffsetRd offset => bare (accessCmd 0b00#2 0b00#2 offset)
  | .refusedMisalignedOffsetWr offset => bare (accessCmd 0b01#2 0b00#2 offset)
  | .refusedBadEvent zeroHi ev zeroLo dom => bare (eventCmd zeroHi ev zeroLo dom)
  | .refusedBadDomain ev dom => bare (eventCmd 0b00#2 ev 0b00000#5 dom)

/-- The transaction whose bits are `w`: `CMD` in bits 15..0, `DATA` in bits 47..16, bits from `nbits`
up all 0 (log entry 18). -/
def tableTransaction (nbits w : Nat) : Transaction :=
  ⟨BitVec.ofNat 16 (w % 2 ^ nbits), BitVec.ofNat 32 (w % 2 ^ nbits / 2 ^ 16)⟩

/-- The transaction the decoder reads from the bits `w`, under the configuration of reset. -/
def decodeTableWord (nbits w : Nat) : Option Instr :=
  some (decode Config.default (tableTransaction nbits w))

end Sys2Proof
end

