-- ==== Sys2Proof/Machine/Memory.lean ====
section
/-! DEFINITION. Host memory (10 R52, 20 R60): bytes at 32-bit addresses, as a list of cells in one
canonical form. The block reads it through `memRead` and never writes it (20 R62); `Memory.write` is
the host's own store, an input of the model (log entry 9). -/

namespace Sys2Proof.Machine

/-- Host memory: cells with strictly rising addresses, none equal to what an unlisted byte reads as. -/
abbrev Memory := List Host.Cell

/-- What a byte of host memory that nothing has stored reads as: 0, as 95_test_vectors.md section 0
takes it. DESIGN CHOICE, log entry 8. -/
def unlistedByte : Byte := 0#8

/-- The number of byte addresses of host memory (20 R60: 32-bit byte addresses). -/
def hostMemoryBytes : Nat := 2 ^ 32

/-- One byte of host memory. -/
def Memory.read : Memory → Nat → Byte
  | [], _ => unlistedByte
  | (b, w) :: rest, a => if a = b then w else Memory.read rest a

/-- A cell in front of a memory, left out where it says what an unlisted byte reads as. -/
def Memory.cons (a : Nat) (v : Byte) (m : Memory) : Memory :=
  if v = unlistedByte then m else (a, v) :: m

/-- The host's store of one byte, keeping the canonical form. -/
def Memory.write : Memory → Nat → Byte → Memory
  | [], a, v => Memory.cons a v []
  | (b, w) :: rest, a, v =>
    if a < b then Memory.cons a v ((b, w) :: rest)
    else if a = b then Memory.cons a v rest
    else (b, w) :: Memory.write rest a v

/-- The canonical form from address `lo` up: addresses rise strictly, stay below the top of the
address space, and no cell says what an unlisted byte reads as. -/
def Memory.wfFrom : Nat → Memory → Bool
  | _, [] => true
  | lo, (a, v) :: rest =>
    decide (lo ≤ a) && decide (a < hostMemoryBytes) && decide (v ≠ unlistedByte)
      && Memory.wfFrom (a + 1) rest

/-- The canonical form holds. -/
def Memory.wf (m : Memory) : Bool := Memory.wfFrom 0 m

/-- The word of four bytes in the order `BYTE_ORDER` (20 R63). -/
def wordOfBytes (order : ByteOrder) (b0 b1 b2 b3 : Byte) : Word :=
  match order with
  | .big => b0 ++ (b1 ++ (b2 ++ b3))
  | .little => b3 ++ (b2 ++ (b1 ++ b0))

/-- `MemRead(addr, 4)` (20 R62, R63): the word whose first byte is at `addr`. -/
def memRead (order : ByteOrder) (m : Memory) (addr : Word) : Word :=
  wordOfBytes order (Memory.read m addr.toNat) (Memory.read m (addr.toNat + 1))
    (Memory.read m (addr.toNat + 2)) (Memory.read m (addr.toNat + 3))

end Sys2Proof.Machine
end

