-- ==== Sys2Proof/Machine/State.lean ====
section
/-! DEFINITION. The state record of 10 R20 as plain data, the configuration, host memory, the inputs
and outputs that stand beside it, and the state after reset (10 R50, 70 R271). -/

namespace Sys2Proof.Machine

/-- A pixel of the output frame (10 R41). -/
structure Rgb where
  r : Byte
  g : Byte
  b : Byte
deriving DecidableEq, Repr

/-- The output frame: rows of cells, each absent or a pixel (10 R41). -/
abbrev Frame := List (List (Option Rgb))

/-- Field parity (10 R25): `even` is 0, `odd` is 1. -/
inductive Parity where
  | even | odd
deriving DecidableEq, Repr

/-- One 32-bit value per domain: `dstatus` (10 R28) or `denable` (10 R29). -/
structure DomainWords where
  video : Word
  audio : Word
  devio : Word
  rio : Word
  timer : Word
deriving DecidableEq, Repr

/-- A model fault as the block records it (60 R241, R242), with the fetch address. It is a record in
the state; it does not stop the machine. -/
inductive FaultRecord where
  | cursorOverrun (a : Word)
  | misalignedFetch (a : Word)
deriving DecidableEq, Repr

/-- A diagnostic event (10 R49). -/
inductive LogEvent where
  | reservedRead (offset : Offset)
  | reservedWrite (offset : Offset) (value : Word)
  | readOnlyWrite (offset : Offset) (value : Word)
deriving DecidableEq, Repr

/-- An input of the machine, from whichever agent acts (60 R255): a transaction, or the host's store
of a byte into its own memory (20 R72; log entry 9). -/
inductive Input where
  | transaction (t : Transaction)
  | hostStore (addr : Word) (value : Byte)
deriving DecidableEq, Repr

/-- What the block hands out: the result of a read (30 R80), or a published frame (10 R42). -/
inductive Output where
  | readResult (value : Word)
  | frameDone (frame : Frame)
deriving DecidableEq, Repr

/-- The state. From `chipControl` on the fields are those of 10 R20; the first four are the
configuration (constant), host memory (the host's), the inputs still to be taken, and what has been
handed out (log entries 1, 8, 10, 11). -/
structure State where
  cfg : Config
  mem : Memory
  inbox : List Input
  output : List Output
  chipControl : Word
  genable : Word
  dstatus : DomainWords
  denable : DomainWords
  nstart : Word
  nsize : Word
  cstart : Word
  csize : Word
  cvalid : Bool
  cursor : Word
  dmacntl : Word
  fcntl : Word
  blnkcol : Word
  hstartRaw : Word
  hsizeRaw : Word
  vstartRaw : Word
  vsizeRaw : Word
  hintline : Word
  line : Nat
  field : Parity
  fb : Frame
  faults : List FaultRecord
  refused : Bool
  log : List LogEvent
deriving DecidableEq, Repr

/-- Why a step could stop with a fault: there is no reason. "No transaction and no line step reports
an error to the host" (60 R240), and the block never hangs (60 R258); a model fault is recorded in
`State.faults` and the machine goes on (60 R241). No constructor, so nothing raises one: safe. -/
inductive Fault where
deriving DecidableEq, Repr

/-- Why a step could give an instruction no meaning. A transaction the spec refuses is not this: it
sets `State.refused` and the machine goes on (60 R243). -/
inductive Refusal where
  /-- An instruction that has no meaning yet; raised by an arm of `exec` only. No arm raises it. Safe:
  the machine stops where the block would go on. -/
  | notModelled (mnemonic : String)
deriving DecidableEq, Repr

/-- The frame with every cell absent, of the configured size (10 R41). -/
def blankFrame (cfg : Config) : Frame :=
  List.replicate cfg.screenHeight (List.replicate cfg.screenWidth none)

/-- The same word for every domain. -/
def DomainWords.all (w : Word) : DomainWords := ⟨w, w, w, w, w⟩

/-- The state at power-on under a configuration: the reset values of 10 R50 with `faults` empty and
`refused` false (70 R271). Host memory lists nothing, no input waits and nothing has been handed out. -/
def State.powerOn (cfg : Config) : State :=
  { cfg := cfg
    mem := []
    inbox := []
    output := []
    chipControl := 0#32
    genable := 0#32
    dstatus := DomainWords.all 0#32
    denable := DomainWords.all 0#32
    nstart := 0#32
    nsize := 0#32
    cstart := 0#32
    csize := 0#32
    cvalid := false
    cursor := 0#32
    dmacntl := 0#32
    fcntl := 0#32
    blnkcol := 0#32
    hstartRaw := 0#32
    hsizeRaw := 0#32
    vstartRaw := 0#32
    vsizeRaw := 0#32
    hintline := 0#32
    line := 0
    field := .even
    fb := blankFrame cfg
    faults := []
    refused := false
    log := [] }

/-- The machine right after reset (10 R50, 70 R271), under the configuration of Machine/Params.lean. -/
def State.reset : State := State.powerOn Config.default

end Sys2Proof.Machine
end

