-- ==== Sys2Proof/Machine/Operands.lean ====
section
/-! DEFINITION. The fields that transactions and pixel words are read by: bits and masks (00 R10,
R12), the control bits of VID_DMACNTL and VID_FCNTL, pixel-pair words, and the value of a domain in a
`DomainWords`. `DATA` itself is used whole (30 R93). -/

namespace Sys2Proof.Machine

/-- `mask(i)`: `1 << i` (00 R12). -/
def mask (i : Fin 32) : Word := 1#32 <<< i.val

/-- `bit(v, i)`: `v[i]` (00 R12). -/
def bit (v : Word) (i : Fin 32) : Bool := v.getLsbD i.val

/-- The value of domain `D`. -/
def DomainWords.at (w : DomainWords) : Domain → Word
  | .video => w.video
  | .audio => w.audio
  | .devio => w.devio
  | .rio => w.rio
  | .timer => w.timer

/-- The values with that of domain `D` replaced. -/
def DomainWords.put (w : DomainWords) (d : Domain) (v : Word) : DomainWords :=
  match d with
  | .video => { w with video := v }
  | .audio => { w with audio := v }
  | .devio => { w with devio := v }
  | .rio => { w with rio := v }
  | .timer => { w with timer := v }

/-- `DMA_EN`, bit 0 of VID_DMACNTL (10 R35). -/
def dmaEn (s : State) : Bool := bit s.dmacntl 0

/-- `NV`, "valid-now", bit 1 of VID_DMACNTL (10 R35). -/
def nv (s : State) : Bool := bit s.dmacntl 1

/-- `NVF`, "always-valid", bit 2 of VID_DMACNTL (10 R35). -/
def nvf (s : State) : Bool := bit s.dmacntl 2

/-- `VIDENAB`, bit 0 of VID_FCNTL (10 R36). -/
def vidEnab (s : State) : Bool := bit s.fcntl 0

/-- `BLNKCOLEN`, bit 1 of VID_FCNTL (10 R36). -/
def blnkColEn (s : State) : Bool := bit s.fcntl 1

/-- The samples of a pixel pair: two luma values and one chroma pair (42 R210). -/
structure PairSamples where
  y1 : Byte
  cb : Byte
  y2 : Byte
  cr : Byte
deriving DecidableEq, Repr

/-- `Unpack(w)` (42 R210). -/
def unpack (w : Word) : PairSamples :=
  { y1 := w.extractLsb' 24 8
    cb := w.extractLsb' 16 8
    y2 := w.extractLsb' 8 8
    cr := w.extractLsb' 0 8 }

/-- `BlankPair(b)` (42 R211): the Blanking Color's luma `b[23:16]` twice, with its chroma pair. -/
def blankPair (b : Word) : Word :=
  b.extractLsb' 16 8 ++ (b.extractLsb' 8 8 ++ (b.extractLsb' 16 8 ++ b.extractLsb' 0 8))

end Sys2Proof.Machine
end

