-- ==== Sys2Proof/Machine/Flags.lean ====
section
/-! DEFINITION. The derived flags of the Interrupt Aggregator: pending (10 R45), global status (10 R30)
and the host interrupt line (10 R31). None is stored, so none is ever stale (40 R103). -/

namespace Sys2Proof.Machine

/-- The visible status of a domain, `dstatus[D] & denable[D]` (40 R116). -/
def visible (s : State) (d : Domain) : Word := s.dstatus.at d &&& s.denable.at d

/-- `pending(S, D)` (10 R45). -/
def pending (s : State) (d : Domain) : Bool := visible s d != 0#32

/-- The contribution of one domain to global status: its `GBIT` where it is pending (10 R30). -/
def globalBit (s : State) (d : Domain) : Word :=
  if pending s d then mask (s.cfg.gbit.at d) else 0#32

/-- `gstatus(S)` (10 R30). -/
def gstatus (s : State) : Word :=
  globalBit s .video ||| globalBit s .audio ||| globalBit s .devio ||| globalBit s .rio
    ||| globalBit s .timer

/-- What INT_STATUS shows, `gstatus & genable` (40 R108). -/
def intStatus (s : State) : Word := gstatus s &&& s.genable

/-- `irq(S)`, the level of the host interrupt line (10 R31). -/
def irq (s : State) : Bool := intStatus s != 0#32

end Sys2Proof.Machine
end

