-- ==== Sys2Proof/Machine/Window.lean ====
section
/-! DEFINITION. The Active Window validator (42 R220, R221). The effective window is a function of the
four raw registers (10 R39). -/

namespace Sys2Proof.Machine

/-- `Clamp1(start, size, DIM, ALIGN)` (42 R220): the size clamped and made even, the start aligned down
and, where the two pass the edge, clamped to the trailing edge. -/
def clamp1 (start size dim align : Nat) : Nat × Nat :=
  let sz := min size dim - min size dim % 2
  let st := start - start % align
  if dim < st + sz then ((dim - sz) - (dim - sz) % align, sz) else (st, sz)

/-- The effective Active Window (10 R39). -/
structure ActiveWindow where
  hstart : Nat
  hsize : Nat
  vstart : Nat
  vsize : Nat
deriving DecidableEq, Repr

/-- `Window(S)` (42 R221). -/
def window (s : State) : ActiveWindow :=
  let h := clamp1 s.hstartRaw.toNat s.hsizeRaw.toNat s.cfg.screenWidth s.cfg.hAlign
  let v := clamp1 s.vstartRaw.toNat s.vsizeRaw.toNat s.cfg.screenHeight s.cfg.vAlign
  { hstart := h.1, hsize := h.2, vstart := v.1, vsize := v.2 }

/-- The `active` test of 42 R194, for the even position `x` of a pair in line `y`. -/
def ActiveWindow.contains (w : ActiveWindow) (x y : Nat) : Bool :=
  decide (w.vstart ≤ y) && decide (y < w.vstart + w.vsize)
    && decide (w.hstart ≤ x) && decide (x < w.hstart + w.hsize)

end Sys2Proof.Machine
end

