-- ==== Sys2Proof/Machine/Ops.lean ====
section
/-! DEFINITION. The named operations every meaning is written over: results and log, Raise and Lower,
the enable masks, promotion, and the two ends of a transaction that has no ordinary effect, recording
a model fault (60 R241) and refusing (60 R243). The block takes no exception of its own (60 R248). -/

namespace Sys2Proof.Machine

/-- A read transaction returns `v` (30 R80). -/
def State.respond (s : State) (v : Word) : State :=
  { s with output := s.output ++ [.readResult v] }

/-- The consumer receives `FrameDone(fb)`, a copy of the whole frame (42 R201, 10 R42). -/
def State.publish (s : State) : State :=
  { s with output := s.output ++ [.frameDone s.fb] }

/-- `Log(e)` (00 R11, 10 R49). -/
def State.logEvent (s : State) (e : LogEvent) : State := { s with log := s.log ++ [e] }

/-- `Raise(D, bits)` (40 R101); no enable is consulted (40 R128). -/
def State.raise (s : State) (d : Domain) (bits : Word) : State :=
  { s with dstatus := s.dstatus.put d (s.dstatus.at d ||| bits) }

/-- `Lower(D, bits)` (40 R102). -/
def State.lower (s : State) (d : Domain) (bits : Word) : State :=
  { s with dstatus := s.dstatus.put d (s.dstatus.at d &&& ~~~bits) }

/-- Write 1 to set, at a domain's enable set address (40 R121). -/
def State.enableSet (s : State) (d : Domain) (bits : Word) : State :=
  { s with denable := s.denable.put d (s.denable.at d ||| bits) }

/-- Write 1 to clear, at a domain's enable clear address (40 R123). -/
def State.enableClear (s : State) (d : Domain) (bits : Word) : State :=
  { s with denable := s.denable.put d (s.denable.at d &&& ~~~bits) }

/-- `CursorInit(start, size, hsize)`, modulo 2^32 (41 R171). -/
def cursorInit (convention : CursorInit) (start size : Word) (hsize : Nat) : Word :=
  let lineBytes := BitVec.ofNat 32 (hsize * bytesPerPixel)
  match convention with
  | .start => start
  | .idx0 => start + size - lineBytes
  | .idx1 => start + 2#32 * lineBytes

/-- `Promote()` (41 R170): next is copied into current and the cursor initialised, in one step. -/
def State.promote (s : State) : State :=
  { s with
    cstart := s.nstart
    csize := s.nsize
    cvalid := true
    cursor := cursorInit s.cfg.cursorInit s.nstart s.nsize (window s).hsize }

/-- `PromoteOnWrite()` (41 R172), called after the written register is updated. -/
def State.promoteOnWrite (s : State) : State := if nvf s then s.promote else s

/-- A fault record is added to the set `faults` (60 R241, 10 R43). -/
def State.recordFault (s : State) (f : FaultRecord) : State :=
  { s with faults := if f ∈ s.faults then s.faults else s.faults ++ [f] }

/-- `Refuse(reason)` (60 R243): the state is unchanged except that `refused` is set. -/
def State.refuse (s : State) : State := { s with refused := true }

/-- The RESET event (70 R270): every field of 10 R50 takes its reset value; `faults` and `refused` are
kept. The configuration, host memory, the inputs still to come and what was handed out are no part of
the block's state (10 R53) and stay (log entry 19). -/
def State.resetEvent (s : State) : State :=
  { State.powerOn s.cfg with
    mem := s.mem
    inbox := s.inbox
    output := s.output
    faults := s.faults
    refused := s.refused }

end Sys2Proof.Machine
end

