-- ==== Sys2Proof/Machine/BusUnit.lean ====
section
/-! DEFINITION. The bus-unit registers: chip identifier and control, global status and global enable
(40 R104 to R115). -/

namespace Sys2Proof.Machine

/-- RD CHIP_ID (40 R104): the configured constant. -/
def execRdChipId (s : State) :
    Host.Outcome State Fault Refusal :=
  .next (s.respond s.cfg.chipIdValue)

/-- WR CHIP_ID (40 R105): read-only; ignored and logged. -/
def execWrChipId (data : Word) (s : State) :
    Host.Outcome State Fault Refusal :=
  .next (s.logEvent (.readOnlyWrite 0x000#12 data))

/-- RD CHIP_CONTROL (40 R106): the stored value. -/
def execRdChipControl (s : State) :
    Host.Outcome State Fault Refusal :=
  .next (s.respond s.chipControl)

/-- WR CHIP_CONTROL (40 R107): all 32 bits stored. -/
def execWrChipControl (data : Word) (s : State) :
    Host.Outcome State Fault Refusal :=
  .next { s with chipControl := data }

/-- RD INT_STATUS (40 R108): global status masked by the global enable; no acknowledge. -/
def execRdIntStatus (s : State) :
    Host.Outcome State Fault Refusal :=
  .next (s.respond (intStatus s))

/-- WR INT_STATUS (40 R109): read-only, global status being derived; ignored and logged. -/
def execWrIntStatus (data : Word) (s : State) :
    Host.Outcome State Fault Refusal :=
  .next (s.logEvent (.readOnlyWrite 0x008#12 data))

/-- RD INT_ENABLE_S (40 R110): the raw mask. -/
def execRdIntEnableS (s : State) :
    Host.Outcome State Fault Refusal :=
  .next (s.respond s.genable)

/-- WR INT_ENABLE_S (40 R111): write 1 to set. -/
def execWrIntEnableS (data : Word) (s : State) :
    Host.Outcome State Fault Refusal :=
  .next { s with genable := s.genable ||| data }

/-- RD INT_STATUS_C (40 R114): a write-only address reads 0. -/
def execRdIntStatusC (s : State) :
    Host.Outcome State Fault Refusal :=
  .next (s.respond 0#32)

/-- WR INT_STATUS_C (40 R115): no state change: every bit of global status is derived, so the acknowledge has nothing to clear. -/
def execWrIntStatusC (_data : Word) (s : State) :
    Host.Outcome State Fault Refusal :=
  .next s

/-- RD INT_ENABLE_C (40 R112): the same value as at the set address. -/
def execRdIntEnableC (s : State) :
    Host.Outcome State Fault Refusal :=
  .next (s.respond s.genable)

/-- WR INT_ENABLE_C (40 R113): write 1 to clear. -/
def execWrIntEnableC (data : Word) (s : State) :
    Host.Outcome State Fault Refusal :=
  .next { s with genable := s.genable &&& ~~~data }

end Sys2Proof.Machine
end

