-- ==== Sys2Proof/Machine/Collaborator.lean ====
section
/-! DEFINITION. The collaborators' events (40 R124, R125). -/

namespace Sys2Proof.Machine

/-- RAISE AUDIO (40 R124): the bits are latched whatever the enables hold. -/
def execRaiseAudio (data : Word) (s : State) :
    Host.Outcome State Fault Refusal :=
  .next (s.raise .audio data)

/-- LOWER AUDIO (40 R125): the bits are cleared. -/
def execLowerAudio (data : Word) (s : State) :
    Host.Outcome State Fault Refusal :=
  .next (s.lower .audio data)

/-- RAISE DEVIO (40 R124): the bits are latched whatever the enables hold. -/
def execRaiseDevio (data : Word) (s : State) :
    Host.Outcome State Fault Refusal :=
  .next (s.raise .devio data)

/-- LOWER DEVIO (40 R125): the bits are cleared. -/
def execLowerDevio (data : Word) (s : State) :
    Host.Outcome State Fault Refusal :=
  .next (s.lower .devio data)

/-- RAISE RIO (40 R124): the bits are latched whatever the enables hold. -/
def execRaiseRio (data : Word) (s : State) :
    Host.Outcome State Fault Refusal :=
  .next (s.raise .rio data)

/-- LOWER RIO (40 R125): the bits are cleared. -/
def execLowerRio (data : Word) (s : State) :
    Host.Outcome State Fault Refusal :=
  .next (s.lower .rio data)

/-- RAISE TIMER (40 R124): the bits are latched whatever the enables hold. -/
def execRaiseTimer (data : Word) (s : State) :
    Host.Outcome State Fault Refusal :=
  .next (s.raise .timer data)

/-- LOWER TIMER (40 R125): the bits are cleared. -/
def execLowerTimer (data : Word) (s : State) :
    Host.Outcome State Fault Refusal :=
  .next (s.lower .timer data)

end Sys2Proof.Machine
end

