-- ==== Sys2Proof/Machine/DomainPair.lean ====
section
/-! DEFINITION. The domain status and enable pairs: the video pair (41 R169) and the collaborators' pairs, by
the rules of 40 R116 to R123. -/

namespace Sys2Proof.Machine

/-- RD VID_INTSTAT_S (40 R116): the latched status masked by the enable; no acknowledge. -/
def execRdVidIntstatS (s : State) :
    Host.Outcome State Fault Refusal :=
  .next (s.respond (visible s .video))

/-- WR VID_INTSTAT_S (40 R117): a software raise. -/
def execWrVidIntstatS (data : Word) (s : State) :
    Host.Outcome State Fault Refusal :=
  .next (s.raise .video data)

/-- RD VID_INTEN_S (40 R120): the raw mask. -/
def execRdVidIntenS (s : State) :
    Host.Outcome State Fault Refusal :=
  .next (s.respond (s.denable.at .video))

/-- WR VID_INTEN_S (40 R121): write 1 to set. -/
def execWrVidIntenS (data : Word) (s : State) :
    Host.Outcome State Fault Refusal :=
  .next (s.enableSet .video data)

/-- RD VID_INTSTAT_C (40 R118): a write-only address reads 0. -/
def execRdVidIntstatC (s : State) :
    Host.Outcome State Fault Refusal :=
  .next (s.respond 0#32)

/-- WR VID_INTSTAT_C (40 R119): acknowledge, write 1 to clear. -/
def execWrVidIntstatC (data : Word) (s : State) :
    Host.Outcome State Fault Refusal :=
  .next (s.lower .video data)

/-- RD VID_INTEN_C (40 R122): the same value as at the set address. -/
def execRdVidIntenC (s : State) :
    Host.Outcome State Fault Refusal :=
  .next (s.respond (s.denable.at .video))

/-- WR VID_INTEN_C (40 R123): write 1 to clear; no status is cleared. -/
def execWrVidIntenC (data : Word) (s : State) :
    Host.Outcome State Fault Refusal :=
  .next (s.enableClear .video data)

/-- RD DOM_STATUS_S(D) (40 R116): the latched status masked by the enable; no acknowledge. -/
def execRdDomStatusS (d : Collab) (s : State) :
    Host.Outcome State Fault Refusal :=
  .next (s.respond (visible s d.domain))

/-- WR DOM_STATUS_S(D) (40 R117): a software raise. -/
def execWrDomStatusS (d : Collab) (data : Word) (s : State) :
    Host.Outcome State Fault Refusal :=
  .next (s.raise d.domain data)

/-- RD DOM_ENABLE_S(D) (40 R120): the raw mask. -/
def execRdDomEnableS (d : Collab) (s : State) :
    Host.Outcome State Fault Refusal :=
  .next (s.respond (s.denable.at d.domain))

/-- WR DOM_ENABLE_S(D) (40 R121): write 1 to set. -/
def execWrDomEnableS (d : Collab) (data : Word) (s : State) :
    Host.Outcome State Fault Refusal :=
  .next (s.enableSet d.domain data)

/-- RD DOM_STATUS_C(D) (40 R118): a write-only address reads 0. -/
def execRdDomStatusC (_d : Collab) (s : State) :
    Host.Outcome State Fault Refusal :=
  .next (s.respond 0#32)

/-- WR DOM_STATUS_C(D) (40 R119): acknowledge, write 1 to clear. -/
def execWrDomStatusC (d : Collab) (data : Word) (s : State) :
    Host.Outcome State Fault Refusal :=
  .next (s.lower d.domain data)

/-- RD DOM_ENABLE_C(D) (40 R122): the same value as at the set address. -/
def execRdDomEnableC (d : Collab) (s : State) :
    Host.Outcome State Fault Refusal :=
  .next (s.respond (s.denable.at d.domain))

/-- WR DOM_ENABLE_C(D) (40 R123): write 1 to clear; no status is cleared. -/
def execWrDomEnableC (d : Collab) (data : Word) (s : State) :
    Host.Outcome State Fault Refusal :=
  .next (s.enableClear d.domain data)

end Sys2Proof.Machine
end

