-- ==== Sys2Proof/Machine/Convert.lean ====
section
/-! DEFINITION. The fixed-point YCbCr to RGB conversion (42 R213 to R219), on unbounded integers. -/

namespace Sys2Proof.Machine

/-- `trunc_div(a, b)`: integer division rounding toward zero (00 R11). -/
def truncDiv (a b : Int) : Int := Int.tdiv a b

/-- `asr(a, n)`: `floor(a / 2^n)` (00 R11). -/
def asr (a : Int) (n : Nat) : Int := a / 2 ^ n

/-- `clamp(v, lo, hi)` (00 R11). -/
def clamp (v lo hi : Int) : Int := min (max v lo) hi

/-- The luma term `yp` (42 R213). -/
def lumaTerm (k : CscConstants) (y : Byte) : Int :=
  truncDiv (((y.toNat : Int) - k.yBlack) * 256 + k.uvOffset) k.yRange

/-- A chroma input less its offset, `cbp` and `crp` (42 R214). -/
def chroma (k : CscConstants) (c : Byte) : Int := (c.toNat : Int) - k.uvOffset

/-- `r_term` (42 R215). -/
def redTerm (k : CscConstants) (cr : Byte) : Int := asr (k.kr * chroma k cr + k.uvOffset) 8

/-- `b_term` (42 R216). -/
def blueTerm (k : CscConstants) (cb : Byte) : Int := asr (k.kb * chroma k cb + k.uvOffset) 8

/-- `g_term`, from the already-shifted `b_term` and `r_term` (42 R217). -/
def greenTerm (k : CscConstants) (cb cr : Byte) : Int :=
  asr (k.kgb * blueTerm k cb + k.kgr * redTerm k cr + k.uvOffset) 8

/-- A channel: clamped to [0, 255] and held in 8 bits (42 R218). -/
def channel (v : Int) : Byte := BitVec.ofNat 8 (clamp v 0 255).toNat

/-- `CSC(y, cb, cr)` (42 R218). -/
def csc (k : CscConstants) (y cb cr : Byte) : Rgb :=
  { r := channel (lumaTerm k y + redTerm k cr)
    g := channel (lumaTerm k y - greenTerm k cb cr)
    b := channel (lumaTerm k y + blueTerm k cb) }

/-- The two pixels of a pair word: its two luma samples with the shared chroma pair (42 R210, R219). -/
def pairPixels (k : CscConstants) (w : Word) : Rgb × Rgb :=
  let p := unpack w
  (csc k p.y1 p.cb p.cr, csc k p.y2 p.cb p.cr)

end Sys2Proof.Machine
end

