-- ==== Sys2Proof/Machine/Scanout.lean ====
section
/-! DEFINITION. The Scanout Engine: fetch (42 R196), the choice of a pair word (42 R194), and a row
(42 R193). Within a row only the cursor changes, so these functions thread the cursor and leave the
state to the line step. -/

namespace Sys2Proof.Machine

/-- The bytes one pixel pair takes: `2 * BYTES_PER_PIXEL` (42 R196, R212). -/
def pairBytes : Nat := 2 * bytesPerPixel

/-- The fetch address is a multiple of 4 (20 R66, 42 R196). -/
def fetchAligned (a : Word) : Bool := a.toNat % 4 == 0

/-- `[a, a+4)` lies in the current buffer, on unbounded naturals (42 R196, 20 R79). -/
def fetchInBuffer (s : State) (a : Word) : Bool :=
  decide (s.cstart.toNat ≤ a.toNat)
    && decide (a.toNat + pairBytes ≤ s.cstart.toNat + s.csize.toNat)

/-- `Fetch()` at cursor `a` (42 R196): the word and the advanced cursor, or the fault record. -/
def fetch (s : State) (a : Word) : Except FaultRecord (Word × Word) :=
  if !fetchAligned a then .error (.misalignedFetch a)
  else if !fetchInBuffer s a then .error (.cursorOverrun a)
  else .ok (memRead s.cfg.byteOrder s.mem a, a + BitVec.ofNat 32 pairBytes)

/-- The fetch is enabled for the frame: VIDENAB, DMA_EN and `cvalid` (42 R194, R195). -/
def fetchEnabled (s : State) : Bool := vidEnab s && dmaEn s && s.cvalid

/-- The pair word of a pair that is not fetched: the Blanking Color where BLNKCOLEN is 1, else the zero
word (42 R197, R198). -/
def unfetchedWord (s : State) : Word := if blnkColEn s then blankPair s.blnkcol else 0#32

/-- `PairWord(x, y, win)` with the cursor at `a` (42 R194). -/
def pairWord (s : State) (win : ActiveWindow) (y x : Nat) (a : Word) :
    Except FaultRecord (Word × Word) :=
  if fetchEnabled s && win.contains x y then fetch s a else .ok (unfetchedWord s, a)

/-- The cells of `n` pairs of line `y` from position `x` on, in ascending order, and the cursor after
them (42 R193). -/
def pairCells (s : State) (win : ActiveWindow) (y : Nat) :
    Nat → Nat → Word → Except FaultRecord (List (Option Rgb) × Word)
  | 0, _, a => .ok ([], a)
  | n + 1, x, a =>
    match pairWord s win y x a with
    | .error f => .error f
    | .ok (w, a') =>
      match pairCells s win y n (x + 2) a' with
      | .error f => .error f
      | .ok (cells, a'') =>
        .ok (some (pairPixels s.cfg.csc w).1 :: some (pairPixels s.cfg.csc w).2 :: cells, a'')

/-- `ProduceRow(y)` (42 R193): every cell of row `y` written, the window read once at its start. -/
def produceRow (s : State) (y : Nat) : Except FaultRecord State :=
  match pairCells s (window s) y (s.cfg.screenWidth / 2) 0 s.cursor with
  | .error f => .error f
  | .ok (cells, a) => .ok { s with fb := s.fb.set y cells, cursor := a }

end Sys2Proof.Machine
end

