-- ==== Sys2Proof/Machine/Timing.lean ====
section
/-! DEFINITION. The Timing Generator: the line step and its parts (42 R190 to R203). -/

namespace Sys2Proof.Machine

/-- A raise of one internal video source: `Raise(VIDEO, mask(VBIT(s)))`. -/
def State.raiseVideo (s : State) (source : VideoSource) : State :=
  s.raise .video (mask (s.cfg.vbit.at source))

/-- `FrameBegin()` (42 R191): promotion where NV is 1; NV is not cleared. -/
def State.frameBegin (s : State) : State := if nv s then s.promote else s

/-- The horizontal line match of line `y`, on the whole 32-bit register (42 R192). -/
def State.hsyncMatch (s : State) (y : Nat) : State :=
  if BitVec.ofNat 32 y = s.hintline then s.raiseVideo .hsync else s

/-- The vertical-sync source of a field (42 R199). -/
def vsyncSource : Parity → VideoSource
  | .even => .vsyncEven
  | .odd => .vsyncOdd

/-- The other field parity (42 R201). -/
def Parity.flip : Parity → Parity
  | .even => .odd
  | .odd => .even

/-- The end of a frame: vertical sync, then DMA completion, then `FrameDone(fb)`, the field toggle and
line 0 (42 R199, R200, R201). -/
def State.frameEnd (s : State) : State :=
  let done := ((s.raiseVideo (vsyncSource s.field)).raiseVideo .dma).publish
  { done with field := s.field.flip, line := 0 }

/-- The start of the line step: FrameBegin on line 0, then the line match (42 R190). -/
def State.lineBegin (s : State) : State :=
  (if s.line = 0 then s.frameBegin else s).hsyncMatch s.line

/-- The visible part of the line step (42 R190, R193). -/
def State.lineRow (s : State) : Except FaultRecord State :=
  if s.line < s.cfg.screenHeight then produceRow s s.line else .ok s

/-- The end of the line step: the frame's end after the last line, else the next line (42 R190, R202). -/
def State.lineEnd (s : State) : State :=
  if s.line = s.cfg.totalLines - 1 then s.frameEnd else { s with line := s.line + 1 }

/-- The line step (42 R190). A state with a fault has no further line step: the event leaves it as it is
(60 R241; log entry 12). A step that faults ends in the state it started from with the record (42 R203). -/
def State.lineStep (s : State) : State :=
  if s.faults = [] then
    match s.lineBegin.lineRow with
    | .error f => s.recordFault f
    | .ok t => t.lineEnd
  else s

end Sys2Proof.Machine
end

