-- ==== Sys2Proof/Machine/Event.lean ====
section
/-! DEFINITION. The driver's and the reset line's events: LINE (42 R190) and RESET (70 R270). -/

namespace Sys2Proof.Machine

/-- LINE (42 R190): one scanline. -/
def execLine (s : State) :
    Host.Outcome State Fault Refusal :=
  .next s.lineStep

/-- RESET (70 R270): the reset values; faults and refused are kept. -/
def execReset (s : State) :
    Host.Outcome State Fault Refusal :=
  .next s.resetEvent

end Sys2Proof.Machine
end

