-- ==== Sys2Proof/Machine/Reserved.lean ====
section
/-! DEFINITION. Reserved offsets (40 R126, R127), and the refused commands (30 R90, R92): the state is
unchanged except that `refused` is set (60 R243), whatever the class of the refusal. -/

namespace Sys2Proof.Machine

/-- RD RESERVED (40 R126): logged, reads 0. -/
def execRdReserved (offset : Offset) (s : State) :
    Host.Outcome State Fault Refusal :=
  .next ((s.logEvent (.reservedRead offset)).respond 0#32)

/-- WR RESERVED (40 R127): logged and otherwise ignored. -/
def execWrReserved (offset : Offset) (data : Word) (s : State) :
    Host.Outcome State Fault Refusal :=
  .next (s.logEvent (.reservedWrite offset data))

/-- REFUSED ReservedKind (30 R92): KIND 11. -/
def execRefusedReservedKind (_rest : BitVec 14) (s : State) :
    Host.Outcome State Fault Refusal :=
  .next s.refuse

/-- REFUSED NotWordWidth (RD) (30 R92): a width other than 32 bits. -/
def execRefusedNotWordWidthRd (_width : BitVec 2) (_offset : Offset) (s : State) :
    Host.Outcome State Fault Refusal :=
  .next s.refuse

/-- REFUSED NotWordWidth (WR) (30 R92): a width other than 32 bits. -/
def execRefusedNotWordWidthWr (_width : BitVec 2) (_offset : Offset) (s : State) :
    Host.Outcome State Fault Refusal :=
  .next s.refuse

/-- REFUSED MisalignedOffset (RD) (30 R92): an offset that is not a multiple of 4. -/
def execRefusedMisalignedOffsetRd (_offset : Offset) (s : State) :
    Host.Outcome State Fault Refusal :=
  .next s.refuse

/-- REFUSED MisalignedOffset (WR) (30 R92): an offset that is not a multiple of 4. -/
def execRefusedMisalignedOffsetWr (_offset : Offset) (s : State) :
    Host.Outcome State Fault Refusal :=
  .next s.refuse

/-- REFUSED BadEvent (30 R92): a reserved EV or a nonzero must-be-zero field. -/
def execRefusedBadEvent (_zeroHi : BitVec 2) (_ev : BitVec 4) (_zeroLo : BitVec 5) (_dom : BitVec 3) (s : State) :
    Host.Outcome State Fault Refusal :=
  .next s.refuse

/-- REFUSED BadDomain (30 R92): a DOM the event does not admit. -/
def execRefusedBadDomain (_ev : BitVec 4) (_dom : BitVec 3) (s : State) :
    Host.Outcome State Fault Refusal :=
  .next s.refuse

end Sys2Proof.Machine
end

