-- ==== Sys2Proof/Machine/Video.lean ====
section
/-! DEFINITION. The video unit: descriptors, cursor, DMA and format control, Blanking Color, Active Window
sources, horizontal interrupt line and scanline readback (41 R141 to R168). -/

namespace Sys2Proof.Machine

/-- RD VID_CSTART (41 R141): the stored value. -/
def execRdVidCstart (s : State) :
    Host.Outcome State Fault Refusal :=
  .next (s.respond s.cstart)

/-- WR VID_CSTART (41 R142): read-only; ignored and logged. -/
def execWrVidCstart (data : Word) (s : State) :
    Host.Outcome State Fault Refusal :=
  .next (s.logEvent (.readOnlyWrite 0x300#12 data))

/-- RD VID_CSIZE (41 R143): the stored value. -/
def execRdVidCsize (s : State) :
    Host.Outcome State Fault Refusal :=
  .next (s.respond s.csize)

/-- WR VID_CSIZE (41 R144): read-only; ignored and logged. -/
def execWrVidCsize (data : Word) (s : State) :
    Host.Outcome State Fault Refusal :=
  .next (s.logEvent (.readOnlyWrite 0x304#12 data))

/-- RD VID_CCNT (41 R145): the stored value. -/
def execRdVidCcnt (s : State) :
    Host.Outcome State Fault Refusal :=
  .next (s.respond s.cursor)

/-- WR VID_CCNT (41 R146): read-only; ignored and logged. -/
def execWrVidCcnt (data : Word) (s : State) :
    Host.Outcome State Fault Refusal :=
  .next (s.logEvent (.readOnlyWrite 0x308#12 data))

/-- RD VID_NSTART (41 R147): the value last written. -/
def execRdVidNstart (s : State) :
    Host.Outcome State Fault Refusal :=
  .next (s.respond s.nstart)

/-- WR VID_NSTART (41 R148): stored, then PromoteOnWrite. -/
def execWrVidNstart (data : Word) (s : State) :
    Host.Outcome State Fault Refusal :=
  .next (State.promoteOnWrite { s with nstart := data })

/-- RD VID_NSIZE (41 R149): the value last written. -/
def execRdVidNsize (s : State) :
    Host.Outcome State Fault Refusal :=
  .next (s.respond s.nsize)

/-- WR VID_NSIZE (41 R150): stored, then PromoteOnWrite. -/
def execWrVidNsize (data : Word) (s : State) :
    Host.Outcome State Fault Refusal :=
  .next (State.promoteOnWrite { s with nsize := data })

/-- RD VID_DMACNTL (41 R151): the value last written. -/
def execRdVidDmacntl (s : State) :
    Host.Outcome State Fault Refusal :=
  .next (s.respond s.dmacntl)

/-- WR VID_DMACNTL (41 R152): stored, then PromoteOnWrite. -/
def execWrVidDmacntl (data : Word) (s : State) :
    Host.Outcome State Fault Refusal :=
  .next (State.promoteOnWrite { s with dmacntl := data })

/-- RD VID_FCNTL (41 R153): the value last written. -/
def execRdVidFcntl (s : State) :
    Host.Outcome State Fault Refusal :=
  .next (s.respond s.fcntl)

/-- WR VID_FCNTL (41 R154): all 32 bits stored. -/
def execWrVidFcntl (data : Word) (s : State) :
    Host.Outcome State Fault Refusal :=
  .next { s with fcntl := data }

/-- RD VID_BLNKCOL (41 R155): the value last written. -/
def execRdVidBlnkcol (s : State) :
    Host.Outcome State Fault Refusal :=
  .next (s.respond s.blnkcol)

/-- WR VID_BLNKCOL (41 R156): all 32 bits stored. -/
def execWrVidBlnkcol (data : Word) (s : State) :
    Host.Outcome State Fault Refusal :=
  .next { s with blnkcol := data }

/-- RD VID_HSTART (41 R157): the value last written, unclamped. -/
def execRdVidHstart (s : State) :
    Host.Outcome State Fault Refusal :=
  .next (s.respond s.hstartRaw)

/-- WR VID_HSTART (41 R158): all 32 bits stored. -/
def execWrVidHstart (data : Word) (s : State) :
    Host.Outcome State Fault Refusal :=
  .next { s with hstartRaw := data }

/-- RD VID_HSIZE (41 R159): the value last written, unclamped. -/
def execRdVidHsize (s : State) :
    Host.Outcome State Fault Refusal :=
  .next (s.respond s.hsizeRaw)

/-- WR VID_HSIZE (41 R160): all 32 bits stored. -/
def execWrVidHsize (data : Word) (s : State) :
    Host.Outcome State Fault Refusal :=
  .next { s with hsizeRaw := data }

/-- RD VID_VSTART (41 R161): the value last written, unclamped. -/
def execRdVidVstart (s : State) :
    Host.Outcome State Fault Refusal :=
  .next (s.respond s.vstartRaw)

/-- WR VID_VSTART (41 R162): all 32 bits stored. -/
def execWrVidVstart (data : Word) (s : State) :
    Host.Outcome State Fault Refusal :=
  .next { s with vstartRaw := data }

/-- RD VID_VSIZE (41 R163): the value last written, unclamped. -/
def execRdVidVsize (s : State) :
    Host.Outcome State Fault Refusal :=
  .next (s.respond s.vsizeRaw)

/-- WR VID_VSIZE (41 R164): all 32 bits stored. -/
def execWrVidVsize (data : Word) (s : State) :
    Host.Outcome State Fault Refusal :=
  .next { s with vsizeRaw := data }

/-- RD VID_HINTLINE (41 R165): the value last written. -/
def execRdVidHintline (s : State) :
    Host.Outcome State Fault Refusal :=
  .next (s.respond s.hintline)

/-- WR VID_HINTLINE (41 R166): all 32 bits stored. -/
def execWrVidHintline (data : Word) (s : State) :
    Host.Outcome State Fault Refusal :=
  .next { s with hintline := data }

/-- RD VID_CLINE (41 R167): the number of the next line to be produced. -/
def execRdVidCline (s : State) :
    Host.Outcome State Fault Refusal :=
  .next (s.respond (BitVec.ofNat 32 s.line))

/-- WR VID_CLINE (41 R168): read-only; ignored and logged. -/
def execWrVidCline (data : Word) (s : State) :
    Host.Outcome State Fault Refusal :=
  .next (s.logEvent (.readOnlyWrite 0x334#12 data))

end Sys2Proof.Machine
end

