-- ==== Sys2Proof/Machine/Dispatch.lean ====
section
/-! DEFINITION. One arm per transaction. -/

namespace Sys2Proof.Machine

def exec (i : Instr) (s : State) : Host.Outcome State Fault Refusal :=
  match i with
  | .rdChipId => Sys2Proof.Machine.execRdChipId s
  | .wrChipId data => Sys2Proof.Machine.execWrChipId data s
  | .rdChipControl => Sys2Proof.Machine.execRdChipControl s
  | .wrChipControl data => Sys2Proof.Machine.execWrChipControl data s
  | .rdIntStatus => Sys2Proof.Machine.execRdIntStatus s
  | .wrIntStatus data => Sys2Proof.Machine.execWrIntStatus data s
  | .rdIntEnableS => Sys2Proof.Machine.execRdIntEnableS s
  | .wrIntEnableS data => Sys2Proof.Machine.execWrIntEnableS data s
  | .rdIntStatusC => Sys2Proof.Machine.execRdIntStatusC s
  | .wrIntStatusC data => Sys2Proof.Machine.execWrIntStatusC data s
  | .rdIntEnableC => Sys2Proof.Machine.execRdIntEnableC s
  | .wrIntEnableC data => Sys2Proof.Machine.execWrIntEnableC data s
  | .rdVidCstart => Sys2Proof.Machine.execRdVidCstart s
  | .wrVidCstart data => Sys2Proof.Machine.execWrVidCstart data s
  | .rdVidCsize => Sys2Proof.Machine.execRdVidCsize s
  | .wrVidCsize data => Sys2Proof.Machine.execWrVidCsize data s
  | .rdVidCcnt => Sys2Proof.Machine.execRdVidCcnt s
  | .wrVidCcnt data => Sys2Proof.Machine.execWrVidCcnt data s
  | .rdVidNstart => Sys2Proof.Machine.execRdVidNstart s
  | .wrVidNstart data => Sys2Proof.Machine.execWrVidNstart data s
  | .rdVidNsize => Sys2Proof.Machine.execRdVidNsize s
  | .wrVidNsize data => Sys2Proof.Machine.execWrVidNsize data s
  | .rdVidDmacntl => Sys2Proof.Machine.execRdVidDmacntl s
  | .wrVidDmacntl data => Sys2Proof.Machine.execWrVidDmacntl data s
  | .rdVidFcntl => Sys2Proof.Machine.execRdVidFcntl s
  | .wrVidFcntl data => Sys2Proof.Machine.execWrVidFcntl data s
  | .rdVidBlnkcol => Sys2Proof.Machine.execRdVidBlnkcol s
  | .wrVidBlnkcol data => Sys2Proof.Machine.execWrVidBlnkcol data s
  | .rdVidHstart => Sys2Proof.Machine.execRdVidHstart s
  | .wrVidHstart data => Sys2Proof.Machine.execWrVidHstart data s
  | .rdVidHsize => Sys2Proof.Machine.execRdVidHsize s
  | .wrVidHsize data => Sys2Proof.Machine.execWrVidHsize data s
  | .rdVidVstart => Sys2Proof.Machine.execRdVidVstart s
  | .wrVidVstart data => Sys2Proof.Machine.execWrVidVstart data s
  | .rdVidVsize => Sys2Proof.Machine.execRdVidVsize s
  | .wrVidVsize data => Sys2Proof.Machine.execWrVidVsize data s
  | .rdVidHintline => Sys2Proof.Machine.execRdVidHintline s
  | .wrVidHintline data => Sys2Proof.Machine.execWrVidHintline data s
  | .rdVidCline => Sys2Proof.Machine.execRdVidCline s
  | .wrVidCline data => Sys2Proof.Machine.execWrVidCline data s
  | .rdVidIntstatS => Sys2Proof.Machine.execRdVidIntstatS s
  | .wrVidIntstatS data => Sys2Proof.Machine.execWrVidIntstatS data s
  | .rdVidIntenS => Sys2Proof.Machine.execRdVidIntenS s
  | .wrVidIntenS data => Sys2Proof.Machine.execWrVidIntenS data s
  | .rdVidIntstatC => Sys2Proof.Machine.execRdVidIntstatC s
  | .wrVidIntstatC data => Sys2Proof.Machine.execWrVidIntstatC data s
  | .rdVidIntenC => Sys2Proof.Machine.execRdVidIntenC s
  | .wrVidIntenC data => Sys2Proof.Machine.execWrVidIntenC data s
  | .rdDomStatusS d => Sys2Proof.Machine.execRdDomStatusS d s
  | .rdDomStatusC d => Sys2Proof.Machine.execRdDomStatusC d s
  | .rdDomEnableS d => Sys2Proof.Machine.execRdDomEnableS d s
  | .rdDomEnableC d => Sys2Proof.Machine.execRdDomEnableC d s
  | .wrDomStatusS d data => Sys2Proof.Machine.execWrDomStatusS d data s
  | .wrDomStatusC d data => Sys2Proof.Machine.execWrDomStatusC d data s
  | .wrDomEnableS d data => Sys2Proof.Machine.execWrDomEnableS d data s
  | .wrDomEnableC d data => Sys2Proof.Machine.execWrDomEnableC d data s
  | .raiseAudio data => Sys2Proof.Machine.execRaiseAudio data s
  | .lowerAudio data => Sys2Proof.Machine.execLowerAudio data s
  | .raiseDevio data => Sys2Proof.Machine.execRaiseDevio data s
  | .lowerDevio data => Sys2Proof.Machine.execLowerDevio data s
  | .raiseRio data => Sys2Proof.Machine.execRaiseRio data s
  | .lowerRio data => Sys2Proof.Machine.execLowerRio data s
  | .raiseTimer data => Sys2Proof.Machine.execRaiseTimer data s
  | .lowerTimer data => Sys2Proof.Machine.execLowerTimer data s
  | .line => Sys2Proof.Machine.execLine s
  | .reset => Sys2Proof.Machine.execReset s
  | .rdReserved offset => Sys2Proof.Machine.execRdReserved offset s
  | .wrReserved offset data => Sys2Proof.Machine.execWrReserved offset data s
  | .refusedReservedKind rest => Sys2Proof.Machine.execRefusedReservedKind rest s
  | .refusedNotWordWidthRd width offset => Sys2Proof.Machine.execRefusedNotWordWidthRd width offset s
  | .refusedNotWordWidthWr width offset => Sys2Proof.Machine.execRefusedNotWordWidthWr width offset s
  | .refusedMisalignedOffsetRd offset => Sys2Proof.Machine.execRefusedMisalignedOffsetRd offset s
  | .refusedMisalignedOffsetWr offset => Sys2Proof.Machine.execRefusedMisalignedOffsetWr offset s
  | .refusedBadEvent zeroHi ev zeroLo dom => Sys2Proof.Machine.execRefusedBadEvent zeroHi ev zeroLo dom s
  | .refusedBadDomain ev dom => Sys2Proof.Machine.execRefusedBadDomain ev dom s

end Sys2Proof.Machine
end

