-- ==== Sys2Proof/Machine/Inbox.lean ====
section
/-! DEFINITION. Taking the next input: the order in which the agents act is the order of `inbox`
(20 R71, 70 R285; log entry 10). -/

namespace Sys2Proof.Machine

/-- The next input and the state without it, or `none` where no agent acts. -/
def takeInput (s : State) : Option (Input × State) :=
  match s.inbox with
  | [] => none
  | i :: rest => some (i, { s with inbox := rest })

/-- The host's store of a byte into its own memory (20 R72; log entry 9). -/
def hostStore (addr : Word) (value : Byte) (s : State) : State :=
  { s with mem := Memory.write s.mem addr.toNat value }

/-- A transaction delivered ahead of every input that waits. -/
def deliver (t : Transaction) (s : State) : State :=
  { s with inbox := .transaction t :: s.inbox }

end Sys2Proof.Machine
end

