-- ==== Sys2Proof/Machine/Step.lean ====
section
/-! DEFINITION. The step: one input of one agent, atomically (20 R70). -/

namespace Sys2Proof.Machine

/-- Take the next input. A transaction is decoded and run; a host store changes host memory; with no
input the block is idle and keeps its state (60 R257). -/
def step (s : State) : Host.Outcome State Fault Refusal :=
  match takeInput s with
  | none => .next s
  | some (.hostStore addr value, t) => .next (hostStore addr value t)
  | some (.transaction x, t) => exec (decode t.cfg x) t

/-- The state in which the very next step decodes and runs the transaction whose bits are `w`. -/
def State.withFetchWord (s : State) (nbits w : Nat) : State := deliver (tableTransaction nbits w) s

end Sys2Proof.Machine
end

