-- ==== Sys2Proof/Machine/Program.lean ====
section
/-! DEFINITION. Lists of transactions: the pseudo-transactions of 30 R95 and their expansions, and
running a list one transaction after another with nothing between. -/

namespace Sys2Proof.Machine

/-- A name of a status and enable pair in a pseudo-transaction (30 R95, 00 R12). -/
inductive PairName where
  | global | video | collab (d : Collab)
deriving DecidableEq, Repr

/-- The pseudo-transactions (30 R95). -/
inductive Pseudo where
  | frame
  | ack (p : PairName) (m : Word)
  | enable (p : PairName) (m : Word)
  | disable (p : PairName) (m : Word)
  | setwin (hs hz vs vz : Word)
deriving DecidableEq, Repr

/-- The write of a pair's status clear address. -/
def ackWrite (m : Word) : PairName → Instr
  | .global => .wrIntStatusC m
  | .video => .wrVidIntstatC m
  | .collab d => .wrDomStatusC d m

/-- The write of a pair's enable set address. -/
def enableWrite (m : Word) : PairName → Instr
  | .global => .wrIntEnableS m
  | .video => .wrVidIntenS m
  | .collab d => .wrDomEnableS d m

/-- The write of a pair's enable clear address. -/
def disableWrite (m : Word) : PairName → Instr
  | .global => .wrIntEnableC m
  | .video => .wrVidIntenC m
  | .collab d => .wrDomEnableC d m

/-- The pair has registers that the host reaches: a collaborator's only where `DOMAIN_REGS` maps them
(30 R87). -/
def PairName.mapped (cfg : Config) : PairName → Bool
  | .global | .video => true
  | .collab d => (cfg.domainRegs.at d).isSome

/-- The one write of ACK, ENABLE or DISABLE (30 R95). For a domain that `DOMAIN_REGS` declares absent the
spec gives no address to write: the model's choice is that there is then no transaction, so that the
status of such a domain is cleared by LOWER only, as 30 R87 says (DESIGN CHOICE, unsafe; log entry 28). -/
def pairWrite (cfg : Config) (p : PairName) (i : Instr) : List Instr :=
  if p.mapped cfg then [i] else []

/-- The expansion of a pseudo-transaction (30 R95; for an absent domain, the choice of `pairWrite`). -/
def expand (cfg : Config) : Pseudo → List Instr
  | .frame => List.replicate cfg.totalLines .line
  | .ack p m => pairWrite cfg p (ackWrite m p)
  | .enable p m => pairWrite cfg p (enableWrite m p)
  | .disable p m => pairWrite cfg p (disableWrite m p)
  | .setwin hs hz vs vz => [.wrVidHstart hs, .wrVidHsize hz, .wrVidVstart vs, .wrVidVsize vz]

/-- A list of transactions run in order, stopping where one has no next state. -/
def execAll : List Instr → State → Host.Outcome State Fault Refusal
  | [], s => .next s
  | i :: rest, s =>
    match exec i s with
    | .next t => execAll rest t
    | .fault r => .fault r
    | .refused r => .refused r

end Sys2Proof.Machine
end

