-- ==== Sys2Proof/Safety.lean ====
section
/-! DEFINITION. The terms claims are stated in: a run in which nothing went wrong (60 R241, R243), and
the invariant of every reachable state (10 R48, R42, R43, R33). -/

namespace Sys2Proof

/-- The transactions that are register reads, reserved ones included (30 R81). -/
def Instr.isRead : Instr → Bool
  | .rdChipId | .rdChipControl | .rdIntStatus | .rdIntEnableS | .rdIntStatusC | .rdIntEnableC
  | .rdVidCstart | .rdVidCsize | .rdVidCcnt | .rdVidNstart | .rdVidNsize | .rdVidDmacntl
  | .rdVidFcntl | .rdVidBlnkcol | .rdVidHstart | .rdVidHsize | .rdVidVstart | .rdVidVsize
  | .rdVidHintline | .rdVidCline | .rdVidIntstatS | .rdVidIntenS | .rdVidIntstatC | .rdVidIntenC
  | .rdDomStatusS _ | .rdDomStatusC _ | .rdDomEnableS _ | .rdDomEnableC _ | .rdReserved _ => true
  | .wrChipId _ | .wrChipControl _ | .wrIntStatus _ | .wrIntEnableS _ | .wrIntStatusC _
  | .wrIntEnableC _ | .wrVidCstart _ | .wrVidCsize _ | .wrVidCcnt _ | .wrVidNstart _
  | .wrVidNsize _ | .wrVidDmacntl _ | .wrVidFcntl _ | .wrVidBlnkcol _ | .wrVidHstart _
  | .wrVidHsize _ | .wrVidVstart _ | .wrVidVsize _ | .wrVidHintline _ | .wrVidCline _
  | .wrVidIntstatS _ | .wrVidIntenS _ | .wrVidIntstatC _ | .wrVidIntenC _ | .wrDomStatusS _ _
  | .wrDomStatusC _ _ | .wrDomEnableS _ _ | .wrDomEnableC _ _ | .raiseAudio _ | .lowerAudio _
  | .raiseDevio _ | .lowerDevio _ | .raiseRio _ | .lowerRio _ | .raiseTimer _ | .lowerTimer _
  | .line | .reset | .wrReserved _ _ | .refusedReservedKind _ | .refusedNotWordWidthRd _ _
  | .refusedNotWordWidthWr _ _ | .refusedMisalignedOffsetRd _ | .refusedMisalignedOffsetWr _
  | .refusedBadEvent _ _ _ _ | .refusedBadDomain _ _ => false

/-- The transactions of a refusal class (30 R92, 60 R243). -/
def Instr.isRefused : Instr → Bool
  | .refusedReservedKind _ | .refusedNotWordWidthRd _ _ | .refusedNotWordWidthWr _ _
  | .refusedMisalignedOffsetRd _ | .refusedMisalignedOffsetWr _ | .refusedBadEvent _ _ _ _
  | .refusedBadDomain _ _ => true
  | .rdChipId | .rdChipControl | .rdIntStatus | .rdIntEnableS | .rdIntStatusC | .rdIntEnableC
  | .rdVidCstart | .rdVidCsize | .rdVidCcnt | .rdVidNstart | .rdVidNsize | .rdVidDmacntl
  | .rdVidFcntl | .rdVidBlnkcol | .rdVidHstart | .rdVidHsize | .rdVidVstart | .rdVidVsize
  | .rdVidHintline | .rdVidCline | .rdVidIntstatS | .rdVidIntenS | .rdVidIntstatC | .rdVidIntenC
  | .rdDomStatusS _ | .rdDomStatusC _ | .rdDomEnableS _ | .rdDomEnableC _ | .rdReserved _
  | .wrChipId _ | .wrChipControl _ | .wrIntStatus _ | .wrIntEnableS _ | .wrIntStatusC _
  | .wrIntEnableC _ | .wrVidCstart _ | .wrVidCsize _ | .wrVidCcnt _ | .wrVidNstart _
  | .wrVidNsize _ | .wrVidDmacntl _ | .wrVidFcntl _ | .wrVidBlnkcol _ | .wrVidHstart _
  | .wrVidHsize _ | .wrVidVstart _ | .wrVidVsize _ | .wrVidHintline _ | .wrVidCline _
  | .wrVidIntstatS _ | .wrVidIntenS _ | .wrVidIntstatC _ | .wrVidIntenC _ | .wrDomStatusS _ _
  | .wrDomStatusC _ _ | .wrDomEnableS _ _ | .wrDomEnableC _ _ | .raiseAudio _ | .lowerAudio _
  | .raiseDevio _ | .lowerDevio _ | .raiseRio _ | .lowerRio _ | .raiseTimer _ | .lowerTimer _
  | .line | .reset | .wrReserved _ _ => false

end Sys2Proof

namespace Sys2Proof.Machine

/-- No fault is recorded and nothing was refused: the premise of every claim about a run, and what a
final state needs (60 R241, R243). -/
abbrev State.Clean (s : State) : Prop := s.faults = [] ∧ s.refused = false

/-- A row of the configured width with every cell present. -/
abbrev RowComplete (cfg : Config) (row : List (Option Rgb)) : Prop :=
  row.length = cfg.screenWidth ∧ ∀ c ∈ row, c.isSome = true

/-- A frame of the configured size with every cell present (10 R42). -/
abbrev FrameComplete (cfg : Config) (f : Frame) : Prop :=
  f.length = cfg.screenHeight ∧ ∀ row ∈ f, RowComplete cfg row

/-- `fb` has one cell per visible pixel (10 R41). -/
abbrev State.FrameShape (s : State) : Prop :=
  s.fb.length = s.cfg.screenHeight ∧ ∀ row ∈ s.fb, row.length = s.cfg.screenWidth

/-- The rows of the lines this frame has produced are complete (42 R193). -/
abbrev State.ProducedRows (s : State) : Prop :=
  ∀ row ∈ s.fb.take s.line, RowComplete s.cfg row

/-- Every published frame is complete (10 R42). -/
abbrev State.PublishedComplete (s : State) : Prop :=
  ∀ o ∈ s.output, match o with
    | .frameDone f => FrameComplete s.cfg f
    | .readResult _ => True

/-- A recorded fault is of a kind its address admits: alignment is tested first (60 R242). -/
abbrev FaultRecord.Justified : FaultRecord → Prop
  | .misalignedFetch a => a.toNat % 4 ≠ 0
  | .cursorOverrun a => a.toNat % 4 = 0

/-- At most one fault is ever recorded, and it is justified (60 R241, R242). -/
abbrev State.FaultsOk (s : State) : Prop :=
  s.faults.length ≤ 1 ∧ ∀ f ∈ s.faults, f.Justified

/-- Until the first promotion the current descriptor and the cursor are 0 (10 R33, R34, 41 R141). -/
abbrev State.CurrentOk (s : State) : Prop :=
  s.cvalid = false → s.cstart = 0#32 ∧ s.csize = 0#32 ∧ s.cursor = 0#32

/-- The invariant: the configuration is admissible, host memory keeps its canonical form, the scan line
stays in its range (10 R48 (d)), the frame keeps its shape with the produced rows complete, published
frames are complete, faults are at most one and justified, and nothing is current before a promotion. -/
structure State.Inv (s : State) : Prop where
  cfg : s.cfg.Wf
  mem : Memory.wf s.mem = true
  line : s.line < s.cfg.totalLines
  shape : s.FrameShape
  rows : s.ProducedRows
  published : s.PublishedComplete
  faults : s.FaultsOk
  current : s.CurrentOk

/-- `n` consecutive LINE events with nothing between (30 R95, 42 R204). -/
def State.lines : Nat → State → State
  | 0, s => s
  | n + 1, s => State.lines n s.lineStep

/-- A register read by its command: every such command decodes to `i`, and `i` answers with the value
and changes nothing else (30 R80, R84, R85). -/
abbrev Reads (cmd : BitVec 16) (i : Instr) (value : State → Word) : Prop :=
  (∀ cfg data, decode cfg ⟨cmd, data⟩ = i)
    ∧ ∀ s : State, exec i s = .next { s with output := s.output ++ [.readResult (value s)] }

/-- A command with `DATA`: every such command decodes to `i DATA`, whose next state is `effect DATA s`. -/
abbrev Writes (cmd : BitVec 16) (i : Word → Instr) (effect : Word → State → State) : Prop :=
  (∀ cfg data, decode cfg ⟨cmd, data⟩ = i data)
    ∧ ∀ (data : Word) (s : State), exec (i data) s = .next (effect data s)

end Sys2Proof.Machine
end

