-- ==== Sys2Proof/Certificates/Slice0/Obligations.lean ====
section
/-! DEFINITION. The statements for the provers. A statement cites the spec by its docstring; what rests on
a choice of the model says so and names the log entry. -/

open Sys2Proof Sys2Proof.Machine

/-- The commands 0x0000, 0x0004, 0x0008, 0x000C, 0x0108 and 0x010C decode to the reads of CHIP_ID,
CHIP_CONTROL, INT_STATUS, INT_ENABLE (set), INT_STATUS (clear) and INT_ENABLE (clear) whatever DATA
holds; each read has a next state in every state, which differs from it in the appended result
alone: CHIP_ID_VALUE, chip_control, gstatus & genable, genable, 0 and genable. In INT_STATUS a bit
whose enable is 0, or which is GBIT of no domain, reads 0. After power-on CHIP_CONTROL reads 0.
(R104, R106, R108, R110, R112, R114.) -/
def Obligations.BusUnitReadsAnswer : Prop :=
  Reads 0x0000#16 .rdChipId (fun s => s.cfg.chipIdValue)
    ∧ Reads 0x0004#16 .rdChipControl (fun s => s.chipControl)
    ∧ Reads 0x0008#16 .rdIntStatus (fun s => gstatus s &&& s.genable)
    ∧ Reads 0x000C#16 .rdIntEnableS (fun s => s.genable)
    ∧ Reads 0x0108#16 .rdIntStatusC (fun _ => 0#32)
    ∧ Reads 0x010C#16 .rdIntEnableC (fun s => s.genable)
    ∧ (∀ (s : State) (i : Fin 32),
        bit s.genable i = false ∨ (∀ d, s.cfg.gbit.at d ≠ i) → bit (gstatus s &&& s.genable) i = false)
    ∧ ∀ cfg, (State.powerOn cfg).chipControl = 0#32

/-- The commands 0x4000, 0x4004, 0x4008 and 0x4108 decode to the writes of CHIP_ID, CHIP_CONTROL,
INT_STATUS and INT_STATUS (clear); in every state the first and third only append ReadOnlyWrite of
their offset and DATA to the log, the second stores DATA in chip_control and changes nothing else,
and the fourth changes nothing at all. (What acknowledges instead is OnlyClearsAcknowledge; that
CHIP_CONTROL has no effect is ChipControlHasNoEffect.) (40_interrupt_registers.md section 2.) -/
def Obligations.BusUnitWritesAct : Prop :=
  Writes 0x4000#16 .wrChipId (fun data s => { s with log := s.log ++ [.readOnlyWrite 0x000#12 data] })
    ∧ Writes 0x4004#16 .wrChipControl (fun data s => { s with chipControl := data })
    ∧ Writes 0x4008#16 .wrIntStatus
        (fun data s => { s with log := s.log ++ [.readOnlyWrite 0x008#12 data] })
    ∧ Writes 0x4108#16 .wrIntStatusC (fun _ s => s)

/-- The commands 0x400C and 0x410C decode to the writes of INT_ENABLE (set) and (clear); their next
states differ in genable alone, which becomes genable | DATA and genable & ~DATA. Setting the enable
of a domain that is pending asserts the line in that same transaction; clearing an enable leaves
every domain as pending as it was, and setting it again asserts the line again. (R111, R113.) -/
def Obligations.GlobalEnableSetsAndClearsAndDrivesLine : Prop :=
  Writes 0x400C#16 .wrIntEnableS (fun data s => { s with genable := s.genable ||| data })
    ∧ Writes 0x410C#16 .wrIntEnableC (fun data s => { s with genable := s.genable &&& ~~~data })
    ∧ (∀ (s : State) (d : Domain) (data : Word),
        pending s d = true → bit data (s.cfg.gbit.at d) = true →
          ∃ t, exec (.wrIntEnableS data) s = .next t ∧ irq t = true)
    ∧ ∀ (s : State) (d : Domain) (data : Word),
        ∃ t, exec (.wrIntEnableC data) s = .next t ∧ pending t d = pending s d
          ∧ (pending s d = true → ∃ u, exec (.wrIntEnableS (mask (s.cfg.gbit.at d))) t = .next u
              ∧ irq u = true)

/-- The commands 0x0300 to 0x0334 in steps of 4 decode to the reads of VID_CSTART, VID_CSIZE, VID_CCNT,
VID_NSTART, VID_NSIZE, VID_DMACNTL, VID_FCNTL, VID_BLNKCOL, the four window registers, VID_HINTLINE
and VID_CLINE whatever DATA holds; each has a next state in every state, which differs in the
appended result alone: the stored register (the raw one for the window), and the line counter as 32
bits for VID_CLINE. (R147, R149, R153, R155, R165.) -/
def Obligations.VideoReadsAnswer : Prop :=
  Reads 0x0300#16 .rdVidCstart (fun s => s.cstart)
    ∧ Reads 0x0304#16 .rdVidCsize (fun s => s.csize)
    ∧ Reads 0x0308#16 .rdVidCcnt (fun s => s.cursor)
    ∧ Reads 0x030C#16 .rdVidNstart (fun s => s.nstart)
    ∧ Reads 0x0310#16 .rdVidNsize (fun s => s.nsize)
    ∧ Reads 0x0314#16 .rdVidDmacntl (fun s => s.dmacntl)
    ∧ Reads 0x0318#16 .rdVidFcntl (fun s => s.fcntl)
    ∧ Reads 0x031C#16 .rdVidBlnkcol (fun s => s.blnkcol)
    ∧ Reads 0x0320#16 .rdVidHstart (fun s => s.hstartRaw)
    ∧ Reads 0x0324#16 .rdVidHsize (fun s => s.hsizeRaw)
    ∧ Reads 0x0328#16 .rdVidVstart (fun s => s.vstartRaw)
    ∧ Reads 0x032C#16 .rdVidVsize (fun s => s.vsizeRaw)
    ∧ Reads 0x0330#16 .rdVidHintline (fun s => s.hintline)
    ∧ Reads 0x0334#16 .rdVidCline (fun s => BitVec.ofNat 32 s.line)

/-- The commands 0x4318, 0x431C, 0x4320, 0x4324, 0x4328, 0x432C and 0x4330 decode to the writes of
VID_FCNTL, VID_BLNKCOL, VID_HSTART, VID_HSIZE, VID_VSTART, VID_VSIZE and VID_HINTLINE; the next
state holds all 32 bits of DATA in that register and differs in nothing else. (41_video_registers.md
sections 4, 5 and 6.) -/
def Obligations.VideoControlWritesStore : Prop :=
  Writes 0x4318#16 .wrVidFcntl (fun data s => { s with fcntl := data })
    ∧ Writes 0x431C#16 .wrVidBlnkcol (fun data s => { s with blnkcol := data })
    ∧ Writes 0x4320#16 .wrVidHstart (fun data s => { s with hstartRaw := data })
    ∧ Writes 0x4324#16 .wrVidHsize (fun data s => { s with hsizeRaw := data })
    ∧ Writes 0x4328#16 .wrVidVstart (fun data s => { s with vstartRaw := data })
    ∧ Writes 0x432C#16 .wrVidVsize (fun data s => { s with vsizeRaw := data })
    ∧ Writes 0x4330#16 .wrVidHintline (fun data s => { s with hintline := data })

/-- The commands 0x4300, 0x4304, 0x4308 and 0x4334 decode to the writes of the read-only video
registers; the next state has ReadOnlyWrite(offset, DATA) appended to the log and differs in nothing
else. (R142, R144, R168.) -/
def Obligations.ReadOnlyVideoWritesOnlyLog : Prop :=
  Writes 0x4300#16 .wrVidCstart
        (fun data s => { s with log := s.log ++ [.readOnlyWrite 0x300#12 data] })
    ∧ Writes 0x4304#16 .wrVidCsize
        (fun data s => { s with log := s.log ++ [.readOnlyWrite 0x304#12 data] })
    ∧ Writes 0x4308#16 .wrVidCcnt
        (fun data s => { s with log := s.log ++ [.readOnlyWrite 0x308#12 data] })
    ∧ Writes 0x4334#16 .wrVidCline
        (fun data s => { s with log := s.log ++ [.readOnlyWrite 0x334#12 data] })

/-- The commands 0x430C, 0x4310 and 0x4314 decode to the writes of VID_NSTART, VID_NSIZE and
VID_DMACNTL. Where bit 2 (NVF) of VID_DMACNTL after the write is 0, the next state differs in the
written register alone. Where it is 1, the current descriptor also becomes the next descriptor (the
new value of the written field with the old one of the other), cvalid becomes true and the cursor
becomes CursorInit of that descriptor and the effective hsize; nothing else changes. Promote itself
copies both fields, sets cvalid and initialises the cursor in one step. (41_video_registers.md
sections 3 and 8.) -/
def Obligations.DescriptorWritesPromoteUnderNvf : Prop :=
  (∀ cfg data, decode cfg ⟨0x430C#16, data⟩ = .wrVidNstart data
      ∧ decode cfg ⟨0x4310#16, data⟩ = .wrVidNsize data
      ∧ decode cfg ⟨0x4314#16, data⟩ = .wrVidDmacntl data)
    ∧ (∀ s : State, s.promote = { s with
          cstart := s.nstart, csize := s.nsize, cvalid := true
          cursor := cursorInit s.cfg.cursorInit s.nstart s.nsize (window s).hsize })
    ∧ ∀ (data : Word) (s : State),
      (bit s.dmacntl 2 = false →
          exec (.wrVidNstart data) s = .next { s with nstart := data }
            ∧ exec (.wrVidNsize data) s = .next { s with nsize := data })
        ∧ (bit s.dmacntl 2 = true →
          exec (.wrVidNstart data) s = .next { s with
              nstart := data, cstart := data, csize := s.nsize, cvalid := true
              cursor := cursorInit s.cfg.cursorInit data s.nsize (window s).hsize }
            ∧ exec (.wrVidNsize data) s = .next { s with
              nsize := data, cstart := s.nstart, csize := data, cvalid := true
              cursor := cursorInit s.cfg.cursorInit s.nstart data (window s).hsize })
        ∧ (bit data 2 = false → exec (.wrVidDmacntl data) s = .next { s with dmacntl := data })
        ∧ (bit data 2 = true → exec (.wrVidDmacntl data) s = .next { s with
              dmacntl := data, cstart := s.nstart, csize := s.nsize, cvalid := true
              cursor := cursorInit s.cfg.cursorInit s.nstart s.nsize (window s).hsize })

/-- For every start, size and hsize: under START the cursor is start; under IDX0 it is start + size -
hsize * 2 and under IDX1 it is start + 2 * (hsize * 2), each taken modulo 2^32.
(41_video_registers.md section 8.) -/
def Obligations.CursorInitFollowsConvention : Prop :=
  ∀ (start size : Word) (hsize : Nat),
    cursorInit .start start size hsize = start
      ∧ ((cursorInit .idx0 start size hsize).toNat : Int)
          = ((start.toNat : Int) + size.toNat - hsize * 2) % 2 ^ 32
      ∧ (cursorInit .idx1 start size hsize).toNat = (start.toNat + 2 * (hsize * 2)) % 2 ^ 32

/-- For every transaction but LINE and RESET, in every state: either cstart, csize, cvalid and cursor
are all unchanged, or the transaction is a write of VID_NSTART, VID_NSIZE or VID_DMACNTL that leaves
NVF = 1, and they are those of a promotion of the next descriptor of the new state. (R173.) -/
def Obligations.OnlyPromotionChangesCurrentDescriptor : Prop :=
  ∀ (i : Instr) (s t : State), exec i s = .next t → i ≠ .line → i ≠ .reset →
    (t.cstart = s.cstart ∧ t.csize = s.csize ∧ t.cvalid = s.cvalid ∧ t.cursor = s.cursor)
      ∨ ((∃ data, i = .wrVidNstart data ∨ i = .wrVidNsize data ∨ i = .wrVidDmacntl data)
        ∧ bit t.dmacntl 2 = true ∧ t.cstart = t.nstart ∧ t.csize = t.nsize ∧ t.cvalid = true
        ∧ t.cursor = cursorInit t.cfg.cursorInit t.nstart t.nsize (window t).hsize)

/-- The commands 0x0338, 0x033C, 0x0438 and 0x043C decode to the reads of VID_INTSTAT (set), VID_INTEN
(set), VID_INTSTAT (clear) and VID_INTEN (clear); the results are dstatus & denable, denable, 0 and
denable of VIDEO, and nothing else changes. (40_interrupt_registers.md section 3,
41_video_registers.md section 7.) -/
def Obligations.VideoPairReadsAnswer : Prop :=
  Reads 0x0338#16 .rdVidIntstatS (fun s => s.dstatus.video &&& s.denable.video)
    ∧ Reads 0x033C#16 .rdVidIntenS (fun s => s.denable.video)
    ∧ Reads 0x0438#16 .rdVidIntstatC (fun _ => 0#32)
    ∧ Reads 0x043C#16 .rdVidIntenC (fun s => s.denable.video)

/-- The commands 0x4338, 0x4438, 0x433C and 0x443C decode to the writes of VID_INTSTAT (set),
VID_INTSTAT (clear), VID_INTEN (set) and VID_INTEN (clear); they OR DATA into, and AND the
complement of DATA out of, the video status and enable, and change nothing else.
(40_interrupt_registers.md section 3, 41_video_registers.md section 7.) -/
def Obligations.VideoPairWritesSetAndClear : Prop :=
  Writes 0x4338#16 .wrVidIntstatS
      (fun data s => { s with dstatus := { s.dstatus with video := s.dstatus.video ||| data } })
    ∧ Writes 0x4438#16 .wrVidIntstatC
      (fun data s => { s with dstatus := { s.dstatus with video := s.dstatus.video &&& ~~~data } })
    ∧ Writes 0x433C#16 .wrVidIntenS
      (fun data s => { s with denable := { s.denable with video := s.denable.video ||| data } })
    ∧ Writes 0x443C#16 .wrVidIntenC
      (fun data s => { s with denable := { s.denable with video := s.denable.video &&& ~~~data } })

/-- Under every admissible configuration, where DOMAIN_REGS maps a domain, RD and WR of its status set
offset, enable set offset, and each plus 0x100, decode to the reads and writes of that domain, with
DATA whole. (30_encoding.md section 2.) -/
def Obligations.CollaboratorPairsDecodeAtTheirOffsets : Prop :=
  ∀ (cfg : Config) (d : Collab) (r : DomainRegs) (data : Word), cfg.Wf → cfg.domainRegs.at d = some r →
    decode cfg ⟨accessCmd 0b00#2 0b00#2 r.statusSet, data⟩ = .rdDomStatusS d
      ∧ decode cfg ⟨accessCmd 0b00#2 0b00#2 (r.statusSet + 0x100#12), data⟩ = .rdDomStatusC d
      ∧ decode cfg ⟨accessCmd 0b00#2 0b00#2 r.enableSet, data⟩ = .rdDomEnableS d
      ∧ decode cfg ⟨accessCmd 0b00#2 0b00#2 (r.enableSet + 0x100#12), data⟩ = .rdDomEnableC d
      ∧ decode cfg ⟨accessCmd 0b01#2 0b00#2 r.statusSet, data⟩ = .wrDomStatusS d data
      ∧ decode cfg ⟨accessCmd 0b01#2 0b00#2 (r.statusSet + 0x100#12), data⟩ = .wrDomStatusC d data
      ∧ decode cfg ⟨accessCmd 0b01#2 0b00#2 r.enableSet, data⟩ = .wrDomEnableS d data
      ∧ decode cfg ⟨accessCmd 0b01#2 0b00#2 (r.enableSet + 0x100#12), data⟩ = .wrDomEnableC d data

/-- For every collaborator domain, in every state: the reads of status (set), status (clear), enable
(set) and enable (clear) answer dstatus & denable, 0, denable and denable and change nothing else;
the writes OR DATA into, and AND the complement of DATA out of, that domain's status and enable, and
leave every other domain's values and every other field. (40_interrupt_registers.md section 3.) -/
def Obligations.CollaboratorPairAccessesAct : Prop :=
  ∀ (d : Collab) (s : State) (data : Word),
    exec (.rdDomStatusS d) s = .next { s with
        output := s.output ++ [.readResult (s.dstatus.at d.domain &&& s.denable.at d.domain)] }
      ∧ exec (.rdDomStatusC d) s = .next { s with output := s.output ++ [.readResult 0#32] }
      ∧ exec (.rdDomEnableS d) s = .next { s with
          output := s.output ++ [.readResult (s.denable.at d.domain)] }
      ∧ exec (.rdDomEnableC d) s = .next { s with
          output := s.output ++ [.readResult (s.denable.at d.domain)] }
      ∧ exec (.wrDomStatusS d data) s = .next { s with
          dstatus := s.dstatus.put d.domain (s.dstatus.at d.domain ||| data) }
      ∧ exec (.wrDomStatusC d data) s = .next { s with
          dstatus := s.dstatus.put d.domain (s.dstatus.at d.domain &&& ~~~data) }
      ∧ exec (.wrDomEnableS d data) s = .next { s with
          denable := s.denable.put d.domain (s.denable.at d.domain ||| data) }
      ∧ exec (.wrDomEnableC d data) s = .next { s with
          denable := s.denable.put d.domain (s.denable.at d.domain &&& ~~~data) }
      ∧ ∀ (w : DomainWords) (e : Domain) (v : Word),
          (w.put d.domain v).at e = if e = d.domain then v else w.at e

/-- The commands 0x8102 to 0x8105 and 0x8202 to 0x8205 decode to RAISE and LOWER of AUDIO, DEVIO, RIO
and TIMER; in every state RAISE ORs DATA into the domain's status and LOWER ANDs its complement out,
whatever the enables hold, and nothing else changes. With a domain code of VIDEO or of no domain
both events decode to the refusal BadDomain. (R124, R125.) -/
def Obligations.RaiseAndLowerActOnTheirDomain : Prop :=
  Writes 0x8102#16 .raiseAudio
        (fun data s => { s with dstatus := { s.dstatus with audio := s.dstatus.audio ||| data } })
    ∧ Writes 0x8202#16 .lowerAudio
        (fun data s => { s with dstatus := { s.dstatus with audio := s.dstatus.audio &&& ~~~data } })
    ∧ Writes 0x8103#16 .raiseDevio
        (fun data s => { s with dstatus := { s.dstatus with devio := s.dstatus.devio ||| data } })
    ∧ Writes 0x8203#16 .lowerDevio
        (fun data s => { s with dstatus := { s.dstatus with devio := s.dstatus.devio &&& ~~~data } })
    ∧ Writes 0x8104#16 .raiseRio
        (fun data s => { s with dstatus := { s.dstatus with rio := s.dstatus.rio ||| data } })
    ∧ Writes 0x8204#16 .lowerRio
        (fun data s => { s with dstatus := { s.dstatus with rio := s.dstatus.rio &&& ~~~data } })
    ∧ Writes 0x8105#16 .raiseTimer
        (fun data s => { s with dstatus := { s.dstatus with timer := s.dstatus.timer ||| data } })
    ∧ Writes 0x8205#16 .lowerTimer
        (fun data s => { s with dstatus := { s.dstatus with timer := s.dstatus.timer &&& ~~~data } })
    ∧ ∀ cfg data, ∀ dom ∈ [0b000#3, 0b001#3, 0b110#3, 0b111#3],
        decode cfg ⟨0x8100#16 ||| dom.setWidth 16, data⟩ = .refusedBadDomain 0b0001#4 dom
          ∧ decode cfg ⟨0x8200#16 ||| dom.setWidth 16, data⟩ = .refusedBadDomain 0b0010#4 dom

/-- Under every configuration, for every word-aligned offset that the register map and DOMAIN_REGS leave
unmapped: RD decodes to the reserved read and WR to the reserved write of that offset. In every
state the read appends ReservedRead(offset) to the log and answers 0, the write appends
ReservedWrite(offset, DATA), and nothing else changes. The sixteen slots 0x300 to 0x33C are all
mapped: no read of one is a reserved read. (R126, R127.) -/
def Obligations.ReservedOffsetsReadZeroAndLog : Prop :=
  (∀ (cfg : Config) (offset : Offset) (data : Word),
      offset.toNat % 4 = 0 → (∀ slot, (offset, slot) ∉ registerMap ++ domainMap cfg.domainRegs) →
        decode cfg ⟨accessCmd 0b00#2 0b00#2 offset, data⟩ = .rdReserved offset
          ∧ decode cfg ⟨accessCmd 0b01#2 0b00#2 offset, data⟩ = .wrReserved offset data)
    ∧ (∀ (cfg : Config) (k : Fin 16) (data : Word) (offset : Offset),
        decode cfg ⟨0x0300#16 + BitVec.ofNat 16 (4 * k.val), data⟩ ≠ .rdReserved offset)
    ∧ ∀ (offset : Offset) (data : Word) (s : State),
      exec (.rdReserved offset) s = .next { s with
          log := s.log ++ [.reservedRead offset], output := s.output ++ [.readResult 0#32] }
        ∧ exec (.wrReserved offset data) s = .next { s with
          log := s.log ++ [.reservedWrite offset data] }

/-- Each of the seven refusal classes (ReservedKind, NotWordWidth of RD and WR, MisalignedOffset of RD
and WR, BadEvent, BadDomain), with any fields, has in every state the next state that differs in
refused = true alone. (The rule's list of the commands in each class is the statement
RefusedCommandsAreTheReservedEncodings.) (60_exceptions.md section 1.) -/
def Obligations.RefusedTransactionsOnlySetRefused : Prop :=
  ∀ (s : State) (rest : BitVec 14) (width zeroHi : BitVec 2) (offset : Offset) (ev : BitVec 4)
      (zeroLo : BitVec 5) (dom : BitVec 3),
    exec (.refusedReservedKind rest) s = .next { s with refused := true }
      ∧ exec (.refusedNotWordWidthRd width offset) s = .next { s with refused := true }
      ∧ exec (.refusedNotWordWidthWr width offset) s = .next { s with refused := true }
      ∧ exec (.refusedMisalignedOffsetRd offset) s = .next { s with refused := true }
      ∧ exec (.refusedMisalignedOffsetWr offset) s = .next { s with refused := true }
      ∧ exec (.refusedBadEvent zeroHi ev zeroLo dom) s = .next { s with refused := true }
      ∧ exec (.refusedBadDomain ev dom) s = .next { s with refused := true }

/-- Under every configuration a transaction decodes to a refusal exactly where its command, read as a
number, has KIND 3; or KIND 0 or 1 with a nonzero WIDTH or an OFFSET that is not a multiple of 4; or
KIND 2 with a nonzero must-be-zero field, an EV above 3, a nonzero DOM for LINE or RESET, or a DOM
outside 2 to 5 for RAISE or LOWER. No other command is refused. (R92.) -/
def Obligations.RefusedCommandsAreTheReservedEncodings : Prop :=
  ∀ (cfg : Config) (t : Transaction),
    let c := t.cmd.toNat
    let kind := c / 2 ^ 14
    let ev := c / 2 ^ 8 % 16
    let dom := c % 8
    (decode cfg t).isRefused = true ↔
      kind = 3 ∨ (kind ≤ 1 ∧ (c / 2 ^ 12 % 4 ≠ 0 ∨ c % 4 ≠ 0))
        ∨ (kind = 2 ∧ (c / 2 ^ 12 % 4 ≠ 0 ∨ c / 2 ^ 3 % 32 ≠ 0 ∨ 3 < ev
          ∨ ((ev = 0 ∨ ev = 3) ∧ dom ≠ 0) ∨ ((ev = 1 ∨ ev = 2) ∧ (dom < 2 ∨ 5 < dom))))

/-- The command 0x8300 decodes to RESET, which in every state has the next state whose registers,
status, enables and line are 0, cvalid false, field even, every frame cell absent and the log empty;
faults and refused are kept, and no FrameDone is published. The host line is then deasserted.
(R270.) -/
def Obligations.ResetEventRestoresResetValues : Prop :=
  (∀ cfg data, decode cfg ⟨0x8300#16, data⟩ = .reset)
    ∧ ∀ s : State, ∃ t, exec .reset s = .next t
      ∧ { t with cfg := s.cfg, mem := s.mem, inbox := s.inbox }
        = { cfg := s.cfg, mem := s.mem, inbox := s.inbox, output := s.output
            chipControl := 0#32, genable := 0#32
            dstatus := ⟨0#32, 0#32, 0#32, 0#32, 0#32⟩, denable := ⟨0#32, 0#32, 0#32, 0#32, 0#32⟩
            nstart := 0#32, nsize := 0#32, cstart := 0#32, csize := 0#32, cvalid := false
            cursor := 0#32, dmacntl := 0#32, fcntl := 0#32, blnkcol := 0#32
            hstartRaw := 0#32, hsizeRaw := 0#32, vstartRaw := 0#32, vsizeRaw := 0#32
            hintline := 0#32, line := 0, field := .even
            fb := List.replicate s.cfg.screenHeight (List.replicate s.cfg.screenWidth none)
            faults := s.faults, refused := s.refused, log := [] }
      ∧ irq t = false

/-- Under every configuration the power-on state is the state that RESET leaves of any state with that
configuration whose faults are empty and whose refused is false, up to host memory, waiting inputs
and what was handed out; its faults are empty, nothing is refused, its enables are 0 and the host
line is deasserted. (R271, R272.) -/
def Obligations.PowerOnLeavesResetValues : Prop :=
  (∀ s : State, s.faults = [] → s.refused = false →
      ∃ t, exec .reset s = .next t
        ∧ { t with mem := [], inbox := [], output := [] }
          = { State.powerOn s.cfg with mem := [], inbox := [], output := [] })
    ∧ (∀ cfg, (State.powerOn cfg).faults = [] ∧ (State.powerOn cfg).refused = false
        ∧ (State.powerOn cfg).genable = 0#32 ∧ (∀ d, (State.powerOn cfg).denable.at d = 0#32)
        ∧ irq (State.powerOn cfg) = false)

/-- In every state whose GBIT is injective: for every domain D, bit GBIT(D) of global status is 1
exactly where (dstatus[D] & denable[D]) != 0; and every bit that is GBIT of no domain is 0. (R30.) -/
def Obligations.GlobalStatusAggregatesPendingDomains : Prop :=
  ∀ s : State, s.cfg.BitsOk →
    (∀ d : Domain, bit (gstatus s) (s.cfg.gbit.at d) = true
        ↔ s.dstatus.at d &&& s.denable.at d ≠ 0#32)
      ∧ ∀ i : Fin 32, (∀ d : Domain, s.cfg.gbit.at d ≠ i) → bit (gstatus s) i = false

/-- In every state the host line is gstatus & genable != 0, and it is asserted exactly where some domain
D has (dstatus[D] & denable[D]) != 0 and bit GBIT(D) of genable is 1. (R31.) -/
def Obligations.HostLineFollowsPendingEnabledDomains : Prop :=
  ∀ s : State,
    (irq s = true ↔ gstatus s &&& s.genable ≠ 0#32)
      ∧ (irq s = true ↔ ∃ d : Domain, s.dstatus.at d &&& s.denable.at d ≠ 0#32
          ∧ bit s.genable (s.cfg.gbit.at d) = true)

/-- In every state: for VIDEO and for every collaborator domain D, a write of 1s to the status clear
address for all visible bits of D, or to the enable clear address for them, leaves D not pending; a
write of GBIT(D)'s mask to INT_ENABLE (clear) leaves the line asserted exactly where another domain,
of another bit, holds it; and a write to INT_STATUS (clear) leaves the line as it is.
(60_exceptions.md section 4, 40_interrupt_registers.md section 3.) -/
def Obligations.AcknowledgeDeassertsTheLine : Prop :=
  ∀ (s : State) (data : Word),
    ((s.dstatus.video &&& s.denable.video) &&& ~~~data = 0#32 →
        (∃ t, exec (.wrVidIntstatC data) s = .next t ∧ pending t .video = false)
          ∧ ∃ t, exec (.wrVidIntenC data) s = .next t ∧ pending t .video = false)
      ∧ (∀ d : Collab, (s.dstatus.at d.domain &&& s.denable.at d.domain) &&& ~~~data = 0#32 →
        (∃ t, exec (.wrDomStatusC d data) s = .next t ∧ pending t d.domain = false)
          ∧ ∃ t, exec (.wrDomEnableC d data) s = .next t ∧ pending t d.domain = false)
      ∧ (∀ d : Domain, ∃ t, exec (.wrIntEnableC (mask (s.cfg.gbit.at d))) s = .next t
        ∧ (irq t = true ↔ ∃ e, s.cfg.gbit.at e ≠ s.cfg.gbit.at d ∧ pending s e = true
            ∧ bit s.genable (s.cfg.gbit.at e) = true))
      ∧ ∃ t, exec (.wrIntStatusC data) s = .next t ∧ irq t = irq s

/-- For every transaction and every two states that differ only in the domain enables and the global
enable, wherever both have a next state, the latched status of every domain after it is the same in
both. (R128.) -/
def Obligations.MaskingAppliesOnlyAtReadAndLine : Prop :=
  ∀ (i : Instr) (s : State) (e : DomainWords) (g : Word) (t u : State),
    exec i s = .next t → exec i { s with denable := e, genable := g } = .next u →
      u.dstatus = t.dstatus

/-- In every state, for every bit i of the video domain: after a software raise of it the bit is
latched; with its enable 0 the status read does not show it; clearing enables leaves it latched; and
setting its enable makes the status read show it and the domain pending. (70_reset_and_hazards.md
section 3, 60_exceptions.md section 4.) -/
def Obligations.LatchedEventsSurfaceWhenEnabled : Prop :=
  ∀ (s : State) (i : Fin 32) (m : Word), ∃ t u v : State,
    exec (.wrVidIntstatS (mask i)) s = .next t ∧ bit t.dstatus.video i = true
      ∧ (bit s.denable.video i = false → bit (visible t .video) i = false)
      ∧ exec (.wrVidIntenC m) t = .next u ∧ u.dstatus = t.dstatus
      ∧ exec (.wrVidIntenS (mask i)) u = .next v
      ∧ bit (visible v .video) i = true ∧ pending v .video = true

/-- For VIDEO and every collaborator domain, every state and mask M: WR enable set, M then WR enable
clear, M has a next state that differs in that enable alone, which becomes E & ~M; and E & ~M is E
exactly where E & M = 0. (R129.) -/
def Obligations.EnableRoundTripRestoresExactlyDisjointMasks : Prop :=
  ∀ (s : State) (m : Word),
    execAll [.wrVidIntenS m, .wrVidIntenC m] s = .next { s with
        denable := s.denable.put .video (s.denable.at .video &&& ~~~m) }
      ∧ (∀ d : Collab, execAll [.wrDomEnableS d m, .wrDomEnableC d m] s = .next { s with
          denable := s.denable.put d.domain (s.denable.at d.domain &&& ~~~m) })
      ∧ ∀ e : Word, e &&& ~~~m = e ↔ e &&& m = 0#32

/-- Every register read (reserved offsets included) has in every state a next state that differs only in
the log and in the one result appended to the output; the log changes only where the read is of a
reserved offset; and a second read answers the same value. The memory reads of a line step leave
host memory as it was. (R68.) -/
def Obligations.ReadsChangeNothingButTheLog : Prop :=
  (∀ (i : Instr) (s : State), i.isRead = true → ∃ t v,
    exec i s = .next t ∧ { t with log := s.log, output := s.output } = s
      ∧ t.output = s.output ++ [.readResult v]
      ∧ ((∀ offset, i ≠ .rdReserved offset) → t.log = s.log)
      ∧ (∀ offset, i = .rdReserved offset → t.log = s.log ++ [.reservedRead offset])
      ∧ ∃ u, exec i t = .next u ∧ u.output = t.output ++ [.readResult v])
    ∧ ∀ s t : State, exec .line s = .next t → t.mem = s.mem

/-- For every transaction and state, the next state has the same host memory, the same configuration (so
the same CHIP_ID) and the same waiting inputs, and its output extends the one before. (20_memory.md
section 2, 10_state.md section 8.) -/
def Obligations.BlockNeverWritesHostMemory : Prop :=
  ∀ (i : Instr) (s : State), ∃ t, exec i s = .next t
    ∧ t.mem = s.mem ∧ t.cfg = s.cfg ∧ t.inbox = s.inbox ∧ ∃ o, t.output = s.output ++ o

/-- For every transaction and state: every fault recorded before is recorded after, RESET included; any
but LINE leaves the faults as they are; refused, once set, stays set, and a transaction that is no
refusal leaves it as it is; and cvalid, once true, stays true unless the transaction is RESET.
(60_exceptions.md section 1, 10_state.md section 8, 41_video_registers.md section 8.) -/
def Obligations.FaultsAndRefusalsStayRecorded : Prop :=
  ∀ (i : Instr) (s : State), ∃ t, exec i s = .next t
    ∧ (∀ f ∈ s.faults, f ∈ t.faults) ∧ (i ≠ .line → t.faults = s.faults)
    ∧ (s.refused = true → t.refused = true) ∧ (i.isRefused = false → t.refused = s.refused)
    ∧ (s.cvalid = true → i ≠ .reset → t.cvalid = true)

/-- In every state the step answers a next state, whatever input waits. (That a LINE event in a faulted
state has the unchanged state as its next state is the model's choice, log entry 12.)
(60_exceptions.md section 5.) -/
def Obligations.EveryInputHasANextState : Prop :=
  ∀ s : State, ∃ t, step s = .next t

/-- In every state: where the first waiting input is a transaction that decodes to a well-formed
instruction i, the step is exec of i at the state without that input, and nothing else is done
around it; where it is a host store, the step changes that byte of host memory alone and takes the
input; with no input waiting, the step changes nothing. (The inbox and the host store input are the
model's, log entries 9 and 10.) (20_memory.md section 5, 30_encoding.md section 1, 60_exceptions.md
section 5.) -/
def Obligations.StepRunsTheNextInput : Prop :=
  ∀ s : State,
    (∀ x rest i, s.inbox = .transaction x :: rest → decode s.cfg x = i → i.wf s.cfg = true →
        step s = exec i { s with inbox := rest })
      ∧ (∀ addr value rest, s.inbox = .hostStore addr value :: rest →
        step s = .next { s with inbox := rest, mem := Memory.write s.mem addr.toNat value })
      ∧ (s.inbox = [] → step s = .next s)

/-- For host memory in its canonical form and every address and byte: after the store that address reads
as the byte, every other address reads as before, the canonical form holds, and MemRead of the
aligned word around the address (big-endian) has the byte in its place. (The host store input is the
model's, log entry 9.) (20_memory.md section 5.) -/
def Obligations.HostStoresAreSeenByFetches : Prop :=
  ∀ (s : State) (addr : Word) (value : Byte), Memory.wf s.mem = true →
    let t := hostStore addr value s
    (∀ a : Nat, Memory.read t.mem a = if a = addr.toNat then value else Memory.read s.mem a)
      ∧ Memory.wf t.mem = true
      ∧ ∀ k : Fin 4, addr.toNat % 4 = k.val →
        (memRead .big t.mem (addr - BitVec.ofNat 32 k.val)).extractLsb' (24 - 8 * k.val) 8 = value

/-- For every memory and address: in big-endian order MemRead is the concatenation of the bytes at addr,
addr+1, addr+2, addr+3, the first most significant, so that the byte at addr is y1 of the pair; in
little-endian order the byte at addr+3 is y1 and the word is the concatenation the other way round.
No transaction changes the order. (R63.) -/
def Obligations.MemReadAssemblesFourBytes : Prop :=
  (∀ (m : Memory) (a : Word),
    let b := fun k => Memory.read m (a.toNat + k)
    (memRead .big m a).toNat
        = (b 0).toNat * 2 ^ 24 + (b 1).toNat * 2 ^ 16 + (b 2).toNat * 2 ^ 8 + (b 3).toNat
      ∧ (memRead .little m a).toNat
        = (b 3).toNat * 2 ^ 24 + (b 2).toNat * 2 ^ 16 + (b 1).toNat * 2 ^ 8 + (b 0).toNat
      ∧ (unpack (memRead .big m a)).y1 = b 0 ∧ (unpack (memRead .little m a)).y1 = b 3)
    ∧ ∀ (i : Instr) (s t : State), exec i s = .next t → t.cfg.byteOrder = s.cfg.byteOrder

/-- For all starts, sizes, dimensions and alignments: the clamped size is even and at most the
dimension, the clamped start is a multiple of the alignment, the two together stay within the
dimension, and clamping again changes nothing. (R222.) -/
def Obligations.ClampIsIdempotentAndInBounds : Prop :=
  ∀ start size dim align : Nat,
    let c := clamp1 start size dim align
    c.2 % 2 = 0 ∧ c.2 ≤ dim ∧ c.1 % align = 0 ∧ c.1 + c.2 ≤ dim
      ∧ clamp1 c.1 c.2 dim align = c

/-- In every state with an admissible configuration: the effective hsize is even; where H_ALIGN is at
least 2 the effective hstart is even, and for every line y and even x: the pair at x is active
exactly where both of its pixels lie in the effective window. With H_ALIGN 1 and an odd effective
hstart the pair at hstart - 1 is not active though its second pixel lies at hstart, and where the
window is not empty the pair at hstart + 1 is. (R224.) -/
def Obligations.AlignedPairsAreWhollyInsideOrOutside : Prop :=
  ∀ (s : State) (x y : Nat), s.cfg.Wf →
    let w := window s
    w.hsize % 2 = 0 ∧ (2 ≤ s.cfg.hAlign → w.hstart % 2 = 0)
      ∧ (2 ≤ s.cfg.hAlign → x % 2 = 0 →
        (w.contains x y = true → w.contains (x + 1) y = true)
          ∧ (w.contains x y = false → w.contains (x + 1) y = false))
      ∧ (s.cfg.hAlign = 1 → w.hstart % 2 = 1 → w.contains (w.hstart - 1) y = false
        ∧ (0 < w.hsize → w.vstart ≤ y → y < w.vstart + w.vsize →
          w.contains (w.hstart + 1) y = true))

/-- In every state the effective window is Clamp1 of the horizontal raw registers with SCREEN_WIDTH and
H_ALIGN and Clamp1 of the vertical ones with SCREEN_HEIGHT and V_ALIGN; and where the four raw
registers are 0 it is (0, 0, 0, 0) and contains no position. (10_state.md section 7,
42_timing_and_scanout.md section 4.) -/
def Obligations.ResetWindowContainsNoPixel : Prop :=
  (∀ s : State,
      ((window s).hstart, (window s).hsize)
          = clamp1 s.hstartRaw.toNat s.hsizeRaw.toNat s.cfg.screenWidth s.cfg.hAlign
        ∧ ((window s).vstart, (window s).vsize)
          = clamp1 s.vstartRaw.toNat s.vsizeRaw.toNat s.cfg.screenHeight s.cfg.vAlign)
    ∧ ∀ (s : State) (x y : Nat), s.hstartRaw = 0#32 → s.hsizeRaw = 0#32 → s.vstartRaw = 0#32 →
        s.vsizeRaw = 0#32 → window s = ⟨0, 0, 0, 0⟩ ∧ (window s).contains x y = false

/-- For every set of CSC constants and every luma and chroma byte: yp is ((y - Y_BLACK) * 256 +
UV_OFFSET) divided by Y_RANGE, which is not 0, rounding toward zero; cbp and crp are the input less
UV_OFFSET; r_term is floor((KR * crp + UV_OFFSET) / 256), b_term floor((KB * cbp + UV_OFFSET) / 256)
and g_term floor((KGB * b_term + KGR * r_term + UV_OFFSET) / 256), from the shifted b_term and
r_term. With the default constants yp lies in [-18, 279], is 0 at 16 and 256 at 235; cbp and crp lie
in [-128, 127], r_term in [-179, 178] and b_term in [-227, 226]. (R213, R214, R215, R216, R217.) -/
def Obligations.ConverterTermsStayInRange : Prop :=
  (∀ (k : CscConstants) (y cb cr : Byte),
      (k.yRange ≠ 0 →
        lumaTerm k y = Int.tdiv (((y.toNat : Int) - k.yBlack) * 256 + k.uvOffset) k.yRange)
        ∧ chroma k cb = (cb.toNat : Int) - k.uvOffset
        ∧ redTerm k cr = Int.fdiv (k.kr * ((cr.toNat : Int) - k.uvOffset) + k.uvOffset) 256
        ∧ blueTerm k cb = Int.fdiv (k.kb * ((cb.toNat : Int) - k.uvOffset) + k.uvOffset) 256
        ∧ greenTerm k cb cr
          = Int.fdiv (k.kgb * blueTerm k cb + k.kgr * redTerm k cr + k.uvOffset) 256)
    ∧ (let k := CscConstants.default
       (∀ y : Byte, -18 ≤ lumaTerm k y ∧ lumaTerm k y ≤ 279)
        ∧ lumaTerm k 16#8 = 0 ∧ lumaTerm k 235#8 = 256
        ∧ (∀ c : Byte, -128 ≤ chroma k c ∧ chroma k c ≤ 127)
        ∧ (∀ c : Byte, -179 ≤ redTerm k c ∧ redTerm k c ≤ 178)
        ∧ ∀ c : Byte, -227 ≤ blueTerm k c ∧ blueTerm k c ≤ 226)

/-- For every set of constants and every input, each channel of CSC, read as a number, is clamp(yp +
r_term, 0, 255), clamp(yp - g_term, 0, 255) and clamp(yp + b_term, 0, 255). With the default
constants CSC(16, 128, 128) is (0, 0, 0), CSC(235, 128, 128) is (255, 255, 255), and the zero word
gives (0, 118, 0) twice. (R218.) -/
def Obligations.ConverterClampsEveryChannel : Prop :=
  (∀ (k : CscConstants) (y cb cr : Byte),
      (((csc k y cb cr).r.toNat : Int) = min (max (lumaTerm k y + redTerm k cr) 0) 255)
        ∧ (((csc k y cb cr).g.toNat : Int) = min (max (lumaTerm k y - greenTerm k cb cr) 0) 255)
        ∧ (((csc k y cb cr).b.toNat : Int) = min (max (lumaTerm k y + blueTerm k cb) 0) 255))
    ∧ csc CscConstants.default 16#8 128#8 128#8 = ⟨0#8, 0#8, 0#8⟩
    ∧ csc CscConstants.default 235#8 128#8 128#8 = ⟨255#8, 255#8, 255#8⟩
    ∧ pairPixels CscConstants.default 0#32 = (⟨0#8, 118#8, 0#8⟩, ⟨0#8, 118#8, 0#8⟩)

/-- For every Blanking Color b, BlankPair(b) is the word whose bytes from the most significant are
b[23:16], b[15:8], b[23:16], b[7:0], and Unpack of it gives (Y, Cb, Y, Cr); for all samples, Unpack
of the word with bytes y1, cb, y2, cr gives them back. (R211.) -/
def Obligations.BlankPairUnpacksToTheBlankingColor : Prop :=
  (∀ b : Word,
      blankPair b = b.extractLsb' 16 8 ++ (b.extractLsb' 8 8 ++ (b.extractLsb' 16 8 ++ b.extractLsb' 0 8))
        ∧ unpack (blankPair b)
          = ⟨b.extractLsb' 16 8, b.extractLsb' 8 8, b.extractLsb' 16 8, b.extractLsb' 0 8⟩)
    ∧ ∀ y1 cb y2 cr : Byte, unpack (y1 ++ (cb ++ (y2 ++ cr))) = ⟨y1, cb, y2, cr⟩

/-- In every state with an admissible configuration, no recorded fault, and a visible line: where
VIDENAB or DMA_EN is 0, or no descriptor is valid and none is promoted in this step, or the line is
above or below the effective window, or that window has no width, LINE has a next state with no
fault in which every cell of the row is CSC of the Blanking Color (BLNKCOLEN 1) or of (0, 0, 0)
(BLNKCOLEN 0), the other rows are unchanged, the cursor changes only by the promotion of line 0
under NV, and the line advances, or returns to 0 after the last. The command 0x8000 decodes to LINE.
(42_timing_and_scanout.md section 1.) -/
def Obligations.LineWithoutFetchBlanksTheRow : Prop :=
  (∀ cfg data, decode cfg ⟨0x8000#16, data⟩ = .line)
    ∧ ∀ s : State, s.cfg.Wf → s.faults = [] → s.line < s.cfg.screenHeight →
      ((vidEnab s && dmaEn s && (s.cvalid || (decide (s.line = 0) && nv s))) = false
          ∨ s.line < (window s).vstart ∨ (window s).vstart + (window s).vsize ≤ s.line
          ∨ (window s).hsize = 0) →
        ∃ t, exec .line s = .next t ∧ t.faults = [] ∧ t.mem = s.mem
          ∧ t.fb = s.fb.set s.line (List.replicate s.cfg.screenWidth (some
              (if blnkColEn s then csc s.cfg.csc (s.blnkcol.extractLsb' 16 8)
                  (s.blnkcol.extractLsb' 8 8) (s.blnkcol.extractLsb' 0 8)
                else csc s.cfg.csc 0#8 0#8 0#8)))
          ∧ t.cursor = (if s.line = 0 ∧ nv s = true then
              cursorInit s.cfg.cursorInit s.nstart s.nsize (window s).hsize else s.cursor)
          ∧ t.line = (if s.line + 1 = s.cfg.totalLines then 0 else s.line + 1)

/-- In every state with an admissible configuration, no recorded fault, and a line of at least
SCREEN_HEIGHT that is not the last: LINE has the next state that differs only in the line, which
advances by one, and, where the line equals hintline, in the HSYNC bit of the video status, which is
raised. (42_timing_and_scanout.md section 1.) -/
def Obligations.LineBeyondTheScreenProducesNoPixels : Prop :=
  ∀ s : State, s.cfg.Wf → s.faults = [] → s.cfg.screenHeight ≤ s.line →
    s.line + 1 < s.cfg.totalLines →
      exec .line s = .next { s with
        line := s.line + 1
        dstatus := if BitVec.ofNat 32 s.line = s.hintline then
          { s.dstatus with video := s.dstatus.video ||| mask s.cfg.vbit.hsync } else s.dstatus }

/-- In every state with an admissible configuration, no recorded fault, VIDENAB and DMA_EN set, and a
line inside the effective window vertically: the descriptor and cursor in force are the current
ones, which must be valid, or on line 0 under NV the next descriptor and its CursorInit, promoted in
this step. Where that cursor is aligned and the row's 2 * hsize bytes lie inside that buffer and
below 2^32, LINE has a next state with no fault; the cursor has advanced from there by 2 * hsize;
pixel pair k shows the two pixels of the word of host memory at that cursor + 4k, the first pair
standing at hstart, or at hstart + 1 where hstart is odd (H_ALIGN 1); and every pixel before the
first pair or after the last shows the word of an unfetched pair. (42_timing_and_scanout.md sections
1, 2, 3 and 4, 20_memory.md section 3, 70_reset_and_hazards.md section 2.) -/
def Obligations.ActiveRowShowsHostMemory : Prop :=
  ∀ s : State, s.cfg.Wf → s.faults = [] → vidEnab s = true → dmaEn s = true →
    let w := window s
    let boot := decide (s.line = 0) && nv s
    let start := if boot then s.nstart else s.cstart
    let size := if boot then s.nsize else s.csize
    let a := if boot then cursorInit s.cfg.cursorInit s.nstart s.nsize w.hsize else s.cursor
    let left := w.hstart + w.hstart % 2
    (boot = true ∨ s.cvalid = true) →
    w.vstart ≤ s.line → s.line < w.vstart + w.vsize →
    a.toNat % 4 = 0 → start.toNat ≤ a.toNat →
    a.toNat + 2 * w.hsize ≤ start.toNat + size.toNat → a.toNat + 2 * w.hsize ≤ 2 ^ 32 →
      ∃ t row, exec .line s = .next t ∧ t.faults = [] ∧ t.fb = s.fb.set s.line row
        ∧ row.length = s.cfg.screenWidth
        ∧ t.cursor = a + BitVec.ofNat 32 (2 * w.hsize)
        ∧ (∀ k, 2 * k < w.hsize →
            let p := pairPixels s.cfg.csc (memRead s.cfg.byteOrder s.mem (a + BitVec.ofNat 32 (4 * k)))
            row[left + 2 * k]? = some (some p.1) ∧ row[left + 2 * k + 1]? = some (some p.2))
        ∧ ∀ x, x < s.cfg.screenWidth → x < left ∨ left + w.hsize ≤ x →
            row[x]? = some (some (pairPixels s.cfg.csc (unfetchedWord s)).1)

/-- In every state with an admissible configuration, no recorded fault, fetch enabled, a line inside a
non-empty effective window, and no promotion in this step: with a cursor that is not a multiple of
4, LINE has the next state that differs only in faults, which holds MisalignedFetch(cursor), whether
or not the cursor is also out of bounds; with an aligned cursor below cstart or with cursor + 4
beyond cstart + csize (unbounded), it differs only in faults, which holds CursorOverrun(cursor). And
whatever LINE records in a state with no fault is one record alone, of one of these kinds with an
address of that alignment, and nothing else then changes; no other transaction records a fault.
Fetch itself, at any cursor, records MisalignedFetch where it is not aligned, else CursorOverrun
where it is out of bounds, and else reads the word there and advances the cursor by 4. (R242.) -/
def Obligations.FaultingLineStepRollsBack : Prop :=
  (∀ s : State, s.cfg.Wf → s.faults = [] → (s.line = 0 → nv s = false) →
      vidEnab s = true → dmaEn s = true → s.cvalid = true → 0 < (window s).hsize →
      (window s).vstart ≤ s.line → s.line < (window s).vstart + (window s).vsize →
        (s.cursor.toNat % 4 ≠ 0 →
            exec .line s = .next { s with faults := [.misalignedFetch s.cursor] })
          ∧ (s.cursor.toNat % 4 = 0 →
            s.cursor.toNat < s.cstart.toNat
              ∨ s.cstart.toNat + s.csize.toNat < s.cursor.toNat + 4 →
              exec .line s = .next { s with faults := [.cursorOverrun s.cursor] }))
    ∧ (∀ s t : State, s.faults = [] → exec .line s = .next t →
        t.faults = [] ∨ ∃ f : FaultRecord, f.Justified ∧ t = { s with faults := [f] })
    ∧ (∀ (i : Instr) (s t : State), i ≠ .line → exec i s = .next t → t.faults = s.faults)
    ∧ ∀ (s : State) (a : Word),
      fetch s a =
        if a.toNat % 4 ≠ 0 then .error (.misalignedFetch a)
        else if a.toNat < s.cstart.toNat ∨ s.cstart.toNat + s.csize.toNat < a.toNat + 4 then
          .error (.cursorOverrun a)
        else .ok (memRead s.cfg.byteOrder s.mem a, a + 4#32)

/-- In every state with a recorded fault, LINE has that same state as its next state. (That the event is
dropped, rather than stopping the machine, is the model's reading of "no step", log entry 12.)
(60_exceptions.md section 1, 95_test_vectors.md V-LINE-6 and V-LINE-18.) -/
def Obligations.FaultedStateTakesNoLineStep : Prop :=
  ∀ s : State, s.faults ≠ [] → exec .line s = .next s

/-- In every state with an admissible configuration and no recorded fault, where LINE records no fault:
the HSYNC bit of the video status is raised exactly where the line equals hintline, the DMA bit
exactly on the last line, VSYNC_EVEN exactly on the last line of an even field and VSYNC_ODD exactly
on the last line of an odd field; every bit raised before stays, every other bit and every other
domain is unchanged. (R199, R200.) -/
def Obligations.LineStepRaisesItsVideoSources : Prop :=
  ∀ s t : State, s.cfg.Wf → s.faults = [] → exec .line s = .next t → t.faults = [] →
    let last := decide (s.line + 1 = s.cfg.totalLines)
    let now := fun (b : Fin 32) => bit t.dstatus.video b
    let old := fun (b : Fin 32) => bit s.dstatus.video b
    let v := s.cfg.vbit
    now v.hsync = (old v.hsync || decide (BitVec.ofNat 32 s.line = s.hintline))
      ∧ now v.dma = (old v.dma || last)
      ∧ now v.vsyncEven = (old v.vsyncEven || (last && decide (s.field = .even)))
      ∧ now v.vsyncOdd = (old v.vsyncOdd || (last && decide (s.field = .odd)))
      ∧ (∀ b : Fin 32, (∀ source, v.at source ≠ b) → now b = old b)
      ∧ ∀ d : Domain, d ≠ .video → t.dstatus.at d = s.dstatus.at d

/-- For every state and its next state under LINE: every register that software writes, the enables, the
log, refused, host memory, the configuration and the waiting inputs are unchanged; every row of the
frame but that of the line is unchanged; the current descriptor changes only on line 0 under NV, and
then becomes the next descriptor. (42_timing_and_scanout.md section 1.) -/
def Obligations.LineStepFrame : Prop :=
  ∀ s t : State, exec .line s = .next t →
    t.cfg = s.cfg ∧ t.mem = s.mem ∧ t.inbox = s.inbox ∧ t.chipControl = s.chipControl
      ∧ t.genable = s.genable ∧ t.denable = s.denable ∧ t.nstart = s.nstart ∧ t.nsize = s.nsize
      ∧ t.dmacntl = s.dmacntl ∧ t.fcntl = s.fcntl ∧ t.blnkcol = s.blnkcol
      ∧ t.hstartRaw = s.hstartRaw ∧ t.hsizeRaw = s.hsizeRaw ∧ t.vstartRaw = s.vstartRaw
      ∧ t.vsizeRaw = s.vsizeRaw ∧ t.hintline = s.hintline ∧ t.refused = s.refused ∧ t.log = s.log
      ∧ (∀ y, y ≠ s.line → t.fb[y]? = s.fb[y]?)
      ∧ ((t.cstart = s.cstart ∧ t.csize = s.csize ∧ t.cvalid = s.cvalid)
        ∨ (s.line = 0 ∧ nv s = true ∧ t.cstart = s.nstart ∧ t.csize = s.nsize ∧ t.cvalid = true))

/-- In every state with an admissible configuration, line 0 and no recorded fault: after n < TOTAL_LINES
line steps that record no fault the line is n, the field unchanged and nothing has been published;
after TOTAL_LINES of them the line is 0, the field has toggled, exactly one FrameDone, of the frame
as it then stands, has been published, and the DMA bit and the VSYNC bit of the field are raised,
and HSYNC where hintline is below TOTAL_LINES. Such a frame is what FRAME expands to. From any line
below TOTAL_LINES a line step that records no fault goes to the next line, or after the last to 0.
(R202.) -/
def Obligations.FrameIsTotalLinesSteps : Prop :=
  (∀ s t : State, s.faults = [] → s.line < s.cfg.totalLines → exec .line s = .next t →
      t.faults = [] → t.line = if s.line + 1 = s.cfg.totalLines then 0 else s.line + 1)
    ∧ ∀ s : State, s.cfg.Wf → s.line = 0 → s.faults = [] →
    (∀ n, n < s.cfg.totalLines → (s.lines n).faults = [] →
        (s.lines n).line = n ∧ (s.lines n).field = s.field ∧ (s.lines n).output = s.output)
      ∧ (let t := s.lines s.cfg.totalLines
         t.faults = [] → execAll (expand s.cfg .frame) s = .next t
            ∧ t.line = 0 ∧ t.field = s.field.flip
            ∧ t.output = s.output ++ [.frameDone t.fb]
            ∧ bit t.dstatus.video s.cfg.vbit.dma = true
            ∧ bit t.dstatus.video (s.cfg.vbit.at (vsyncSource s.field)) = true
            ∧ (s.hintline.toNat < s.cfg.totalLines → bit t.dstatus.video s.cfg.vbit.hsync = true))

/-- In every state with an admissible configuration, line 0, no recorded fault and the HSYNC bit 0:
after n <= TOTAL_LINES line steps that record no fault and with no write between, the HSYNC bit is 1
exactly where hintline < n; so it is raised once, in the step that produces line hintline, and never
where hintline is at least TOTAL_LINES. And from any line, a line step that records no fault raises
the bit where its line as 32 bits equals hintline, and else leaves it. (R192.) -/
def Obligations.HsyncFiresExactlyOnItsLine : Prop :=
  (∀ s t : State, s.cfg.Wf → s.faults = [] → exec .line s = .next t → t.faults = [] →
      bit t.dstatus.video s.cfg.vbit.hsync
        = (bit s.dstatus.video s.cfg.vbit.hsync || decide (BitVec.ofNat 32 s.line = s.hintline)))
    ∧ ∀ (s : State) (n : Nat), s.cfg.Wf → s.line = 0 → s.faults = [] →
    bit s.dstatus.video s.cfg.vbit.hsync = false → n ≤ s.cfg.totalLines →
    (s.lines n).faults = [] →
      (bit (s.lines n).dstatus.video s.cfg.vbit.hsync = true ↔ s.hintline.toNat < n)

/-- In every state with an admissible configuration, line 0, no recorded fault, VIDENAB and DMA_EN set,
and either NV set (the next descriptor and its CursorInit are then promoted and in force) or a valid
current descriptor (which, with the cursor, is then in force): if the frame of TOTAL_LINES line
steps records no fault, the cursor after it is the cursor in force plus hsize * vsize * 2 modulo
2^32; it records no fault where that cursor is aligned and that many bytes from it lie inside the
buffer and below 2^32; and where the cursor in force is the start of the buffer (as under NV with
CURSOR_INIT START), aligned, and the buffer is of exactly that size and ends at or below 2^32, the
frame records no fault and the cursor after it is cstart + csize. (R225.) -/
def Obligations.FrameConsumesItsBuffer : Prop :=
  ∀ s : State, s.cfg.Wf → s.line = 0 → s.faults = [] → vidEnab s = true → dmaEn s = true →
    nv s = true ∨ s.cvalid = true →
      let w := window s
      let bytes := w.hsize * w.vsize * 2
      let start := if nv s then s.nstart else s.cstart
      let size := if nv s then s.nsize else s.csize
      let a := if nv s then cursorInit s.cfg.cursorInit s.nstart s.nsize w.hsize else s.cursor
      let t := s.lines s.cfg.totalLines
      (t.faults = [] → t.cursor = a + BitVec.ofNat 32 bytes)
        ∧ (a.toNat % 4 = 0 → start.toNat ≤ a.toNat →
          a.toNat + bytes ≤ start.toNat + size.toNat → a.toNat + bytes ≤ 2 ^ 32 → t.faults = [])
        ∧ ((nv s = true ∧ s.cfg.cursorInit = .start) ∨ (nv s = false ∧ s.cursor = s.cstart) →
          start.toNat % 4 = 0 → size.toNat = bytes → start.toNat + bytes ≤ 2 ^ 32 →
            t.faults = [] ∧ t.cursor = t.cstart + t.csize)

/-- FRAME expands to TOTAL_LINES LINE events; ACK, ENABLE and DISABLE of the global pair, of VIDEO, and
of every collaborator domain whose registers are mapped, to the one write of its status clear,
enable set or enable clear address; SETWIN to the four window writes in order, which in every state
leave the four raw registers at its operands and nothing else changed. (R95.) -/
def Obligations.PseudoTransactionsExpand : Prop :=
  (∀ cfg : Config, expand cfg .frame = List.replicate cfg.totalLines .line)
    ∧ (∀ (cfg : Config) (m : Word),
        expand cfg (.ack .global m) = [.wrIntStatusC m]
          ∧ expand cfg (.ack .video m) = [.wrVidIntstatC m]
          ∧ expand cfg (.enable .global m) = [.wrIntEnableS m]
          ∧ expand cfg (.enable .video m) = [.wrVidIntenS m]
          ∧ expand cfg (.disable .global m) = [.wrIntEnableC m]
          ∧ expand cfg (.disable .video m) = [.wrVidIntenC m])
    ∧ (∀ (cfg : Config) (m : Word) (d : Collab), (cfg.domainRegs.at d).isSome = true →
        expand cfg (.ack (.collab d) m) = [.wrDomStatusC d m]
          ∧ expand cfg (.enable (.collab d) m) = [.wrDomEnableS d m]
          ∧ expand cfg (.disable (.collab d) m) = [.wrDomEnableC d m])
    ∧ ∀ (s : State) (hs hz vs vz : Word),
        expand s.cfg (.setwin hs hz vs vz)
            = [.wrVidHstart hs, .wrVidHsize hz, .wrVidVstart vs, .wrVidVsize vz]
          ∧ execAll (expand s.cfg (.setwin hs hz vs vz)) s = .next { s with
            hstartRaw := hs, hsizeRaw := hz, vstartRaw := vs, vsizeRaw := vz }

/-- Under every admissible configuration, for every well-formed transaction of the opcode table with
every operand: decode of its encoding is that transaction. (30_encoding.md sections 1, 2 and 3.) -/
def Obligations.DecodeEncodeAgree : Prop :=
  ∀ (cfg : Config) (i : Instr), cfg.Wf → i.wf cfg = true → decode cfg (encode cfg i) = i

/-- Under every configuration and for every command word and DATA: what it decodes to is well formed
under that configuration and encodes to the same command word, so no bit of a command is dropped;
and for WR that is not refused, and for RAISE and LOWER, the operand is kept whole. (30_encoding.md
sections 1, 2 and 3.) -/
def Obligations.EveryCommandDecodesAndEncodesBack : Prop :=
  ∀ (cfg : Config) (t : Transaction),
    (decode cfg t).wf cfg = true ∧ (encode cfg (decode cfg t)).cmd = t.cmd
      ∧ ((decode cfg t).isRefused = false →
        t.cmd.extractLsb' 14 2 = 0b01#2 ∨ (t.cmd.extractLsb' 14 2 = 0b10#2
          ∧ (t.cmd.extractLsb' 8 4 = 0b0001#4 ∨ t.cmd.extractLsb' 8 4 = 0b0010#4)) →
          (encode cfg (decode cfg t)).data = t.data)

/-- Under the configuration of reset: 0x4330 with DATA 100 is WR VID_HINTLINE, 100; 0x8105 with DATA 1
is RAISE TIMER, 1; 0x0340 is a reserved read; 0x8000 is LINE and 0x8300 RESET; 0x4184 with DATA 0x10
is the enable set of AUDIO; 0x0002, 0x8101 and 0x8308 are refused as MisalignedOffset, BadDomain and
BadEvent. (The offsets of AUDIO are those of W1, a choice of the model, log entry 3.)
(30_encoding.md section 4, 95_test_vectors.md sections 5 and 8.) -/
def Obligations.WordsOfTheSpecDecode : Prop :=
  let d := decode Config.default
  d ⟨0x4330#16, 100#32⟩ = .wrVidHintline 100#32 ∧ d ⟨0x8105#16, 1#32⟩ = .raiseTimer 1#32
    ∧ d ⟨0x0340#16, 0#32⟩ = .rdReserved 0x340#12 ∧ d ⟨0x8000#16, 0#32⟩ = .line
    ∧ d ⟨0x8300#16, 0#32⟩ = .reset ∧ d ⟨0x4184#16, 0x10#32⟩ = .wrDomEnableS .audio 0x10#32
    ∧ d ⟨0x0002#16, 0#32⟩ = .refusedMisalignedOffsetRd 0x002#12
    ∧ d ⟨0x8101#16, 0#32⟩ = .refusedBadDomain 0b0001#4 0b001#3
    ∧ d ⟨0x8308#16, 0#32⟩ = .refusedBadEvent 0b00#2 0b0011#4 0b00001#5 0b000#3

/-- For every state that meets the invariant (admissible configuration; host memory in canonical form;
line below TOTAL_LINES; the frame of the configured shape with the rows of the lines produced
complete; every published frame complete; at most one fault, of a kind its address admits; nothing
current before the first promotion), a step that answers a next state gives a state that meets it.
(10_state.md section 8, 42_timing_and_scanout.md section 1, 60_exceptions.md section 1.) -/
def Obligations.StepKeepsTheInvariant : Prop :=
  ∀ s t : State, s.Inv → step s = .next t → t.Inv

/-- Under every admissible configuration the power-on state meets the invariant, and so does
State.reset. (10_state.md section 8, 70_reset_and_hazards.md section 1.) -/
def Obligations.ResetMeetsTheInvariant : Prop :=
  (∀ cfg : Config, cfg.Wf → (State.powerOn cfg).Inv) ∧ State.reset.Inv

/-- Under every configuration, for a collaborator domain whose registers are absent: ACK, ENABLE and
DISABLE of it expand to no transaction, so that in every state nothing changes. (The spec gives such
a domain no address and does not say what they expand to; that they expand to nothing is the model's
choice, log entry 28.) (30_encoding.md sections 2 and 4.) -/
def Obligations.PseudoTransactionsOfAnAbsentDomain : Prop :=
  ∀ (s : State) (d : Collab) (m : Word), s.cfg.domainRegs.at d = none →
    ∀ p ∈ [Pseudo.ack (.collab d) m, .enable (.collab d) m, .disable (.collab d) m],
      expand s.cfg p = [] ∧ execAll (expand s.cfg p) s = .next s

/-- The command 0x4108 decodes to the write of INT_STATUS (clear), which in every state changes nothing,
so that it never deasserts the line. And whatever transaction takes a domain from pending to not
pending is one of these: the write of that domain's status clear address, the write of its enable
clear address (the two that software has), LOWER of that domain, or RESET. (R115.) -/
def Obligations.OnlyClearsAcknowledge : Prop :=
  Writes 0x4108#16 .wrIntStatusC (fun _ s => s)
    ∧ ∀ (i : Instr) (s t : State) (d : Domain), exec i s = .next t →
      pending s d = true → pending t d = false →
        i = .reset ∨ (∃ data, (d, i) ∈ [ (.video, .wrVidIntstatC data), (.video, .wrVidIntenC data)
            , (.audio, .lowerAudio data), (.devio, .lowerDevio data), (.rio, .lowerRio data)
            , (.timer, .lowerTimer data) ])
          ∨ ∃ c data, d = Collab.domain c ∧ (i = .wrDomStatusC c data ∨ i = .wrDomEnableC c data)

/-- The command 0x4004 decodes to the write of CHIP_CONTROL, whose next state holds all 32 bits of DATA
in chip_control and differs in nothing else; a read of CHIP_CONTROL then returns it. And for every
transaction but that read, and every two states that differ only in chip_control, wherever both have
a next state these differ in chip_control at most. (R107.) -/
def Obligations.ChipControlHasNoEffect : Prop :=
  Writes 0x4004#16 .wrChipControl (fun data s => { s with chipControl := data })
    ∧ (∀ (data : Word) (s : State), execAll [.wrChipControl data, .rdChipControl] s
        = .next { s with chipControl := data, output := s.output ++ [.readResult data] })
    ∧ ∀ (i : Instr) (s t u : State) (v : Word), i ≠ .rdChipControl → exec i s = .next t →
        exec i { s with chipControl := v } = .next u →
          { u with chipControl := t.chipControl } = t
end

