-- ==== Sys2Proof/Laws/Memory.lean ====
section
/-! SUPPORT. The laws of host memory: a store keeps the canonical form, below the first cell nothing is
listed, and a put cell reads back. -/

namespace Sys2Proof.Machine

theorem wfFrom_mono {lo lo' : Nat} (h : lo' ≤ lo) :
    ∀ {m : Memory}, Memory.wfFrom lo m = true → Memory.wfFrom lo' m = true
  | [], _ => rfl
  | (a, v) :: rest, hm => by
    simp only [Memory.wfFrom, Bool.and_eq_true, decide_eq_true_eq] at hm ⊢
    exact ⟨⟨⟨by omega, hm.1.1.2⟩, hm.1.2⟩, hm.2⟩

theorem cons_wfFrom {lo a : Nat} {v : Byte} {m : Memory} (hlo : lo ≤ a) (ha : a < hostMemoryBytes)
    (hm : Memory.wfFrom (a + 1) m = true) : Memory.wfFrom lo (Memory.cons a v m) = true := by
  unfold Memory.cons
  split
  · exact wfFrom_mono (by omega) hm
  · simp only [Memory.wfFrom, Bool.and_eq_true, decide_eq_true_eq]
    exact ⟨⟨⟨hlo, ha⟩, ‹_›⟩, hm⟩

/-- A store at or above the bottom keeps the canonical form. -/
theorem write_wfFrom {a : Nat} (v : Byte) (ha : a < hostMemoryBytes) :
    ∀ {lo : Nat} {m : Memory}, lo ≤ a → Memory.wfFrom lo m = true →
      Memory.wfFrom lo (Memory.write m a v) = true
  | _, [], hlo, _ => cons_wfFrom hlo ha rfl
  | lo, (b, w) :: rest, hlo, hm => by
    simp only [Memory.wfFrom, Bool.and_eq_true, decide_eq_true_eq] at hm
    unfold Memory.write
    split
    · refine cons_wfFrom hlo ha ?_
      simp only [Memory.wfFrom, Bool.and_eq_true, decide_eq_true_eq]
      exact ⟨⟨⟨by omega, hm.1.1.2⟩, hm.1.2⟩, hm.2⟩
    · split
      · subst_vars; exact cons_wfFrom hlo ha hm.2
      · simp only [Memory.wfFrom, Bool.and_eq_true, decide_eq_true_eq]
        exact ⟨hm.1, write_wfFrom v ha (by omega) hm.2⟩

/-- The host's store keeps the canonical form. -/
theorem write_wf {m : Memory} {a : Nat} (v : Byte) (ha : a < hostMemoryBytes)
    (hm : Memory.wf m = true) : Memory.wf (Memory.write m a v) = true :=
  write_wfFrom v ha (Nat.zero_le a) hm

/-- The only operation on host memory keeps the canonical form of the state's memory. -/
theorem hostStore_wf {s : State} (addr : Word) (value : Byte) (h : Memory.wf s.mem = true) :
    Memory.wf (hostStore addr value s).mem = true :=
  write_wf value addr.isLt h

/-- Reset's memory has the canonical form. -/
theorem powerOn_mem_wf (cfg : Config) : Memory.wf (State.powerOn cfg).mem = true := rfl

/-- Below its first cell a memory lists nothing. -/
theorem read_below {a : Nat} :
    ∀ {lo : Nat} {m : Memory}, a < lo → Memory.wfFrom lo m = true → Memory.read m a = unlistedByte
  | _, [], _, _ => rfl
  | lo, (b, w) :: rest, hlo, hm => by
    simp only [Memory.wfFrom, Bool.and_eq_true, decide_eq_true_eq] at hm
    have hb : a ≠ b := by omega
    simp only [Memory.read, if_neg hb]
    exact read_below (by omega) hm.2

/-- A put cell reads back; every other address reads as the rest does. -/
theorem read_cons {a b : Nat} {v : Byte} {m : Memory} (hm : Memory.read m a = unlistedByte) :
    Memory.read (Memory.cons a v m) b = if b = a then v else Memory.read m b := by
  unfold Memory.cons
  split
  · rename_i hv
    split
    · subst_vars; exact hm
    · rfl
  · rfl

end Sys2Proof.Machine
end

