-- ==== Sys2Proof/Laws/State.lean ====
section
/-! SUPPORT. One lemma per field per update of the state, so that no proof unfolds a record update. -/

namespace Sys2Proof.Machine

@[simp] theorem respond_cfg (s : State) (v : Word) : (s.respond v).cfg = s.cfg := rfl
@[simp] theorem respond_mem (s : State) (v : Word) : (s.respond v).mem = s.mem := rfl
@[simp] theorem respond_inbox (s : State) (v : Word) : (s.respond v).inbox = s.inbox := rfl
@[simp] theorem respond_output (s : State) (v : Word) : (s.respond v).output = s.output ++ [.readResult v] := rfl
@[simp] theorem respond_chipControl (s : State) (v : Word) : (s.respond v).chipControl = s.chipControl := rfl
@[simp] theorem respond_genable (s : State) (v : Word) : (s.respond v).genable = s.genable := rfl
@[simp] theorem respond_dstatus (s : State) (v : Word) : (s.respond v).dstatus = s.dstatus := rfl
@[simp] theorem respond_denable (s : State) (v : Word) : (s.respond v).denable = s.denable := rfl
@[simp] theorem respond_nstart (s : State) (v : Word) : (s.respond v).nstart = s.nstart := rfl
@[simp] theorem respond_nsize (s : State) (v : Word) : (s.respond v).nsize = s.nsize := rfl
@[simp] theorem respond_cstart (s : State) (v : Word) : (s.respond v).cstart = s.cstart := rfl
@[simp] theorem respond_csize (s : State) (v : Word) : (s.respond v).csize = s.csize := rfl
@[simp] theorem respond_cvalid (s : State) (v : Word) : (s.respond v).cvalid = s.cvalid := rfl
@[simp] theorem respond_cursor (s : State) (v : Word) : (s.respond v).cursor = s.cursor := rfl
@[simp] theorem respond_dmacntl (s : State) (v : Word) : (s.respond v).dmacntl = s.dmacntl := rfl
@[simp] theorem respond_fcntl (s : State) (v : Word) : (s.respond v).fcntl = s.fcntl := rfl
@[simp] theorem respond_blnkcol (s : State) (v : Word) : (s.respond v).blnkcol = s.blnkcol := rfl
@[simp] theorem respond_hstartRaw (s : State) (v : Word) : (s.respond v).hstartRaw = s.hstartRaw := rfl
@[simp] theorem respond_hsizeRaw (s : State) (v : Word) : (s.respond v).hsizeRaw = s.hsizeRaw := rfl
@[simp] theorem respond_vstartRaw (s : State) (v : Word) : (s.respond v).vstartRaw = s.vstartRaw := rfl
@[simp] theorem respond_vsizeRaw (s : State) (v : Word) : (s.respond v).vsizeRaw = s.vsizeRaw := rfl
@[simp] theorem respond_hintline (s : State) (v : Word) : (s.respond v).hintline = s.hintline := rfl
@[simp] theorem respond_line (s : State) (v : Word) : (s.respond v).line = s.line := rfl
@[simp] theorem respond_field (s : State) (v : Word) : (s.respond v).field = s.field := rfl
@[simp] theorem respond_fb (s : State) (v : Word) : (s.respond v).fb = s.fb := rfl
@[simp] theorem respond_faults (s : State) (v : Word) : (s.respond v).faults = s.faults := rfl
@[simp] theorem respond_refused (s : State) (v : Word) : (s.respond v).refused = s.refused := rfl
@[simp] theorem respond_log (s : State) (v : Word) : (s.respond v).log = s.log := rfl

@[simp] theorem publish_cfg (s : State) : (s.publish).cfg = s.cfg := rfl
@[simp] theorem publish_mem (s : State) : (s.publish).mem = s.mem := rfl
@[simp] theorem publish_inbox (s : State) : (s.publish).inbox = s.inbox := rfl
@[simp] theorem publish_output (s : State) : (s.publish).output = s.output ++ [.frameDone s.fb] := rfl
@[simp] theorem publish_chipControl (s : State) : (s.publish).chipControl = s.chipControl := rfl
@[simp] theorem publish_genable (s : State) : (s.publish).genable = s.genable := rfl
@[simp] theorem publish_dstatus (s : State) : (s.publish).dstatus = s.dstatus := rfl
@[simp] theorem publish_denable (s : State) : (s.publish).denable = s.denable := rfl
@[simp] theorem publish_nstart (s : State) : (s.publish).nstart = s.nstart := rfl
@[simp] theorem publish_nsize (s : State) : (s.publish).nsize = s.nsize := rfl
@[simp] theorem publish_cstart (s : State) : (s.publish).cstart = s.cstart := rfl
@[simp] theorem publish_csize (s : State) : (s.publish).csize = s.csize := rfl
@[simp] theorem publish_cvalid (s : State) : (s.publish).cvalid = s.cvalid := rfl
@[simp] theorem publish_cursor (s : State) : (s.publish).cursor = s.cursor := rfl
@[simp] theorem publish_dmacntl (s : State) : (s.publish).dmacntl = s.dmacntl := rfl
@[simp] theorem publish_fcntl (s : State) : (s.publish).fcntl = s.fcntl := rfl
@[simp] theorem publish_blnkcol (s : State) : (s.publish).blnkcol = s.blnkcol := rfl
@[simp] theorem publish_hstartRaw (s : State) : (s.publish).hstartRaw = s.hstartRaw := rfl
@[simp] theorem publish_hsizeRaw (s : State) : (s.publish).hsizeRaw = s.hsizeRaw := rfl
@[simp] theorem publish_vstartRaw (s : State) : (s.publish).vstartRaw = s.vstartRaw := rfl
@[simp] theorem publish_vsizeRaw (s : State) : (s.publish).vsizeRaw = s.vsizeRaw := rfl
@[simp] theorem publish_hintline (s : State) : (s.publish).hintline = s.hintline := rfl
@[simp] theorem publish_line (s : State) : (s.publish).line = s.line := rfl
@[simp] theorem publish_field (s : State) : (s.publish).field = s.field := rfl
@[simp] theorem publish_fb (s : State) : (s.publish).fb = s.fb := rfl
@[simp] theorem publish_faults (s : State) : (s.publish).faults = s.faults := rfl
@[simp] theorem publish_refused (s : State) : (s.publish).refused = s.refused := rfl
@[simp] theorem publish_log (s : State) : (s.publish).log = s.log := rfl

@[simp] theorem logEvent_cfg (s : State) (e : LogEvent) : (s.logEvent e).cfg = s.cfg := rfl
@[simp] theorem logEvent_mem (s : State) (e : LogEvent) : (s.logEvent e).mem = s.mem := rfl
@[simp] theorem logEvent_inbox (s : State) (e : LogEvent) : (s.logEvent e).inbox = s.inbox := rfl
@[simp] theorem logEvent_output (s : State) (e : LogEvent) : (s.logEvent e).output = s.output := rfl
@[simp] theorem logEvent_chipControl (s : State) (e : LogEvent) : (s.logEvent e).chipControl = s.chipControl := rfl
@[simp] theorem logEvent_genable (s : State) (e : LogEvent) : (s.logEvent e).genable = s.genable := rfl
@[simp] theorem logEvent_dstatus (s : State) (e : LogEvent) : (s.logEvent e).dstatus = s.dstatus := rfl
@[simp] theorem logEvent_denable (s : State) (e : LogEvent) : (s.logEvent e).denable = s.denable := rfl
@[simp] theorem logEvent_nstart (s : State) (e : LogEvent) : (s.logEvent e).nstart = s.nstart := rfl
@[simp] theorem logEvent_nsize (s : State) (e : LogEvent) : (s.logEvent e).nsize = s.nsize := rfl
@[simp] theorem logEvent_cstart (s : State) (e : LogEvent) : (s.logEvent e).cstart = s.cstart := rfl
@[simp] theorem logEvent_csize (s : State) (e : LogEvent) : (s.logEvent e).csize = s.csize := rfl
@[simp] theorem logEvent_cvalid (s : State) (e : LogEvent) : (s.logEvent e).cvalid = s.cvalid := rfl
@[simp] theorem logEvent_cursor (s : State) (e : LogEvent) : (s.logEvent e).cursor = s.cursor := rfl
@[simp] theorem logEvent_dmacntl (s : State) (e : LogEvent) : (s.logEvent e).dmacntl = s.dmacntl := rfl
@[simp] theorem logEvent_fcntl (s : State) (e : LogEvent) : (s.logEvent e).fcntl = s.fcntl := rfl
@[simp] theorem logEvent_blnkcol (s : State) (e : LogEvent) : (s.logEvent e).blnkcol = s.blnkcol := rfl
@[simp] theorem logEvent_hstartRaw (s : State) (e : LogEvent) : (s.logEvent e).hstartRaw = s.hstartRaw := rfl
@[simp] theorem logEvent_hsizeRaw (s : State) (e : LogEvent) : (s.logEvent e).hsizeRaw = s.hsizeRaw := rfl
@[simp] theorem logEvent_vstartRaw (s : State) (e : LogEvent) : (s.logEvent e).vstartRaw = s.vstartRaw := rfl
@[simp] theorem logEvent_vsizeRaw (s : State) (e : LogEvent) : (s.logEvent e).vsizeRaw = s.vsizeRaw := rfl
@[simp] theorem logEvent_hintline (s : State) (e : LogEvent) : (s.logEvent e).hintline = s.hintline := rfl
@[simp] theorem logEvent_line (s : State) (e : LogEvent) : (s.logEvent e).line = s.line := rfl
@[simp] theorem logEvent_field (s : State) (e : LogEvent) : (s.logEvent e).field = s.field := rfl
@[simp] theorem logEvent_fb (s : State) (e : LogEvent) : (s.logEvent e).fb = s.fb := rfl
@[simp] theorem logEvent_faults (s : State) (e : LogEvent) : (s.logEvent e).faults = s.faults := rfl
@[simp] theorem logEvent_refused (s : State) (e : LogEvent) : (s.logEvent e).refused = s.refused := rfl
@[simp] theorem logEvent_log (s : State) (e : LogEvent) : (s.logEvent e).log = s.log ++ [e] := rfl

@[simp] theorem raise_cfg (s : State) (d : Domain) (b : Word) : (s.raise d b).cfg = s.cfg := rfl
@[simp] theorem raise_mem (s : State) (d : Domain) (b : Word) : (s.raise d b).mem = s.mem := rfl
@[simp] theorem raise_inbox (s : State) (d : Domain) (b : Word) : (s.raise d b).inbox = s.inbox := rfl
@[simp] theorem raise_output (s : State) (d : Domain) (b : Word) : (s.raise d b).output = s.output := rfl
@[simp] theorem raise_chipControl (s : State) (d : Domain) (b : Word) : (s.raise d b).chipControl = s.chipControl := rfl
@[simp] theorem raise_genable (s : State) (d : Domain) (b : Word) : (s.raise d b).genable = s.genable := rfl
@[simp] theorem raise_dstatus (s : State) (d : Domain) (b : Word) : (s.raise d b).dstatus = s.dstatus.put d (s.dstatus.at d ||| b) := rfl
@[simp] theorem raise_denable (s : State) (d : Domain) (b : Word) : (s.raise d b).denable = s.denable := rfl
@[simp] theorem raise_nstart (s : State) (d : Domain) (b : Word) : (s.raise d b).nstart = s.nstart := rfl
@[simp] theorem raise_nsize (s : State) (d : Domain) (b : Word) : (s.raise d b).nsize = s.nsize := rfl
@[simp] theorem raise_cstart (s : State) (d : Domain) (b : Word) : (s.raise d b).cstart = s.cstart := rfl
@[simp] theorem raise_csize (s : State) (d : Domain) (b : Word) : (s.raise d b).csize = s.csize := rfl
@[simp] theorem raise_cvalid (s : State) (d : Domain) (b : Word) : (s.raise d b).cvalid = s.cvalid := rfl
@[simp] theorem raise_cursor (s : State) (d : Domain) (b : Word) : (s.raise d b).cursor = s.cursor := rfl
@[simp] theorem raise_dmacntl (s : State) (d : Domain) (b : Word) : (s.raise d b).dmacntl = s.dmacntl := rfl
@[simp] theorem raise_fcntl (s : State) (d : Domain) (b : Word) : (s.raise d b).fcntl = s.fcntl := rfl
@[simp] theorem raise_blnkcol (s : State) (d : Domain) (b : Word) : (s.raise d b).blnkcol = s.blnkcol := rfl
@[simp] theorem raise_hstartRaw (s : State) (d : Domain) (b : Word) : (s.raise d b).hstartRaw = s.hstartRaw := rfl
@[simp] theorem raise_hsizeRaw (s : State) (d : Domain) (b : Word) : (s.raise d b).hsizeRaw = s.hsizeRaw := rfl
@[simp] theorem raise_vstartRaw (s : State) (d : Domain) (b : Word) : (s.raise d b).vstartRaw = s.vstartRaw := rfl
@[simp] theorem raise_vsizeRaw (s : State) (d : Domain) (b : Word) : (s.raise d b).vsizeRaw = s.vsizeRaw := rfl
@[simp] theorem raise_hintline (s : State) (d : Domain) (b : Word) : (s.raise d b).hintline = s.hintline := rfl
@[simp] theorem raise_line (s : State) (d : Domain) (b : Word) : (s.raise d b).line = s.line := rfl
@[simp] theorem raise_field (s : State) (d : Domain) (b : Word) : (s.raise d b).field = s.field := rfl
@[simp] theorem raise_fb (s : State) (d : Domain) (b : Word) : (s.raise d b).fb = s.fb := rfl
@[simp] theorem raise_faults (s : State) (d : Domain) (b : Word) : (s.raise d b).faults = s.faults := rfl
@[simp] theorem raise_refused (s : State) (d : Domain) (b : Word) : (s.raise d b).refused = s.refused := rfl
@[simp] theorem raise_log (s : State) (d : Domain) (b : Word) : (s.raise d b).log = s.log := rfl

@[simp] theorem lower_cfg (s : State) (d : Domain) (b : Word) : (s.lower d b).cfg = s.cfg := rfl
@[simp] theorem lower_mem (s : State) (d : Domain) (b : Word) : (s.lower d b).mem = s.mem := rfl
@[simp] theorem lower_inbox (s : State) (d : Domain) (b : Word) : (s.lower d b).inbox = s.inbox := rfl
@[simp] theorem lower_output (s : State) (d : Domain) (b : Word) : (s.lower d b).output = s.output := rfl
@[simp] theorem lower_chipControl (s : State) (d : Domain) (b : Word) : (s.lower d b).chipControl = s.chipControl := rfl
@[simp] theorem lower_genable (s : State) (d : Domain) (b : Word) : (s.lower d b).genable = s.genable := rfl
@[simp] theorem lower_dstatus (s : State) (d : Domain) (b : Word) : (s.lower d b).dstatus = s.dstatus.put d (s.dstatus.at d &&& ~~~b) := rfl
@[simp] theorem lower_denable (s : State) (d : Domain) (b : Word) : (s.lower d b).denable = s.denable := rfl
@[simp] theorem lower_nstart (s : State) (d : Domain) (b : Word) : (s.lower d b).nstart = s.nstart := rfl
@[simp] theorem lower_nsize (s : State) (d : Domain) (b : Word) : (s.lower d b).nsize = s.nsize := rfl
@[simp] theorem lower_cstart (s : State) (d : Domain) (b : Word) : (s.lower d b).cstart = s.cstart := rfl
@[simp] theorem lower_csize (s : State) (d : Domain) (b : Word) : (s.lower d b).csize = s.csize := rfl
@[simp] theorem lower_cvalid (s : State) (d : Domain) (b : Word) : (s.lower d b).cvalid = s.cvalid := rfl
@[simp] theorem lower_cursor (s : State) (d : Domain) (b : Word) : (s.lower d b).cursor = s.cursor := rfl
@[simp] theorem lower_dmacntl (s : State) (d : Domain) (b : Word) : (s.lower d b).dmacntl = s.dmacntl := rfl
@[simp] theorem lower_fcntl (s : State) (d : Domain) (b : Word) : (s.lower d b).fcntl = s.fcntl := rfl
@[simp] theorem lower_blnkcol (s : State) (d : Domain) (b : Word) : (s.lower d b).blnkcol = s.blnkcol := rfl
@[simp] theorem lower_hstartRaw (s : State) (d : Domain) (b : Word) : (s.lower d b).hstartRaw = s.hstartRaw := rfl
@[simp] theorem lower_hsizeRaw (s : State) (d : Domain) (b : Word) : (s.lower d b).hsizeRaw = s.hsizeRaw := rfl
@[simp] theorem lower_vstartRaw (s : State) (d : Domain) (b : Word) : (s.lower d b).vstartRaw = s.vstartRaw := rfl
@[simp] theorem lower_vsizeRaw (s : State) (d : Domain) (b : Word) : (s.lower d b).vsizeRaw = s.vsizeRaw := rfl
@[simp] theorem lower_hintline (s : State) (d : Domain) (b : Word) : (s.lower d b).hintline = s.hintline := rfl
@[simp] theorem lower_line (s : State) (d : Domain) (b : Word) : (s.lower d b).line = s.line := rfl
@[simp] theorem lower_field (s : State) (d : Domain) (b : Word) : (s.lower d b).field = s.field := rfl
@[simp] theorem lower_fb (s : State) (d : Domain) (b : Word) : (s.lower d b).fb = s.fb := rfl
@[simp] theorem lower_faults (s : State) (d : Domain) (b : Word) : (s.lower d b).faults = s.faults := rfl
@[simp] theorem lower_refused (s : State) (d : Domain) (b : Word) : (s.lower d b).refused = s.refused := rfl
@[simp] theorem lower_log (s : State) (d : Domain) (b : Word) : (s.lower d b).log = s.log := rfl

@[simp] theorem enableSet_cfg (s : State) (d : Domain) (b : Word) : (s.enableSet d b).cfg = s.cfg := rfl
@[simp] theorem enableSet_mem (s : State) (d : Domain) (b : Word) : (s.enableSet d b).mem = s.mem := rfl
@[simp] theorem enableSet_inbox (s : State) (d : Domain) (b : Word) : (s.enableSet d b).inbox = s.inbox := rfl
@[simp] theorem enableSet_output (s : State) (d : Domain) (b : Word) : (s.enableSet d b).output = s.output := rfl
@[simp] theorem enableSet_chipControl (s : State) (d : Domain) (b : Word) : (s.enableSet d b).chipControl = s.chipControl := rfl
@[simp] theorem enableSet_genable (s : State) (d : Domain) (b : Word) : (s.enableSet d b).genable = s.genable := rfl
@[simp] theorem enableSet_dstatus (s : State) (d : Domain) (b : Word) : (s.enableSet d b).dstatus = s.dstatus := rfl
@[simp] theorem enableSet_denable (s : State) (d : Domain) (b : Word) : (s.enableSet d b).denable = s.denable.put d (s.denable.at d ||| b) := rfl
@[simp] theorem enableSet_nstart (s : State) (d : Domain) (b : Word) : (s.enableSet d b).nstart = s.nstart := rfl
@[simp] theorem enableSet_nsize (s : State) (d : Domain) (b : Word) : (s.enableSet d b).nsize = s.nsize := rfl
@[simp] theorem enableSet_cstart (s : State) (d : Domain) (b : Word) : (s.enableSet d b).cstart = s.cstart := rfl
@[simp] theorem enableSet_csize (s : State) (d : Domain) (b : Word) : (s.enableSet d b).csize = s.csize := rfl
@[simp] theorem enableSet_cvalid (s : State) (d : Domain) (b : Word) : (s.enableSet d b).cvalid = s.cvalid := rfl
@[simp] theorem enableSet_cursor (s : State) (d : Domain) (b : Word) : (s.enableSet d b).cursor = s.cursor := rfl
@[simp] theorem enableSet_dmacntl (s : State) (d : Domain) (b : Word) : (s.enableSet d b).dmacntl = s.dmacntl := rfl
@[simp] theorem enableSet_fcntl (s : State) (d : Domain) (b : Word) : (s.enableSet d b).fcntl = s.fcntl := rfl
@[simp] theorem enableSet_blnkcol (s : State) (d : Domain) (b : Word) : (s.enableSet d b).blnkcol = s.blnkcol := rfl
@[simp] theorem enableSet_hstartRaw (s : State) (d : Domain) (b : Word) : (s.enableSet d b).hstartRaw = s.hstartRaw := rfl
@[simp] theorem enableSet_hsizeRaw (s : State) (d : Domain) (b : Word) : (s.enableSet d b).hsizeRaw = s.hsizeRaw := rfl
@[simp] theorem enableSet_vstartRaw (s : State) (d : Domain) (b : Word) : (s.enableSet d b).vstartRaw = s.vstartRaw := rfl
@[simp] theorem enableSet_vsizeRaw (s : State) (d : Domain) (b : Word) : (s.enableSet d b).vsizeRaw = s.vsizeRaw := rfl
@[simp] theorem enableSet_hintline (s : State) (d : Domain) (b : Word) : (s.enableSet d b).hintline = s.hintline := rfl
@[simp] theorem enableSet_line (s : State) (d : Domain) (b : Word) : (s.enableSet d b).line = s.line := rfl
@[simp] theorem enableSet_field (s : State) (d : Domain) (b : Word) : (s.enableSet d b).field = s.field := rfl
@[simp] theorem enableSet_fb (s : State) (d : Domain) (b : Word) : (s.enableSet d b).fb = s.fb := rfl
@[simp] theorem enableSet_faults (s : State) (d : Domain) (b : Word) : (s.enableSet d b).faults = s.faults := rfl
@[simp] theorem enableSet_refused (s : State) (d : Domain) (b : Word) : (s.enableSet d b).refused = s.refused := rfl
@[simp] theorem enableSet_log (s : State) (d : Domain) (b : Word) : (s.enableSet d b).log = s.log := rfl

@[simp] theorem enableClear_cfg (s : State) (d : Domain) (b : Word) : (s.enableClear d b).cfg = s.cfg := rfl
@[simp] theorem enableClear_mem (s : State) (d : Domain) (b : Word) : (s.enableClear d b).mem = s.mem := rfl
@[simp] theorem enableClear_inbox (s : State) (d : Domain) (b : Word) : (s.enableClear d b).inbox = s.inbox := rfl
@[simp] theorem enableClear_output (s : State) (d : Domain) (b : Word) : (s.enableClear d b).output = s.output := rfl
@[simp] theorem enableClear_chipControl (s : State) (d : Domain) (b : Word) : (s.enableClear d b).chipControl = s.chipControl := rfl
@[simp] theorem enableClear_genable (s : State) (d : Domain) (b : Word) : (s.enableClear d b).genable = s.genable := rfl
@[simp] theorem enableClear_dstatus (s : State) (d : Domain) (b : Word) : (s.enableClear d b).dstatus = s.dstatus := rfl
@[simp] theorem enableClear_denable (s : State) (d : Domain) (b : Word) : (s.enableClear d b).denable = s.denable.put d (s.denable.at d &&& ~~~b) := rfl
@[simp] theorem enableClear_nstart (s : State) (d : Domain) (b : Word) : (s.enableClear d b).nstart = s.nstart := rfl
@[simp] theorem enableClear_nsize (s : State) (d : Domain) (b : Word) : (s.enableClear d b).nsize = s.nsize := rfl
@[simp] theorem enableClear_cstart (s : State) (d : Domain) (b : Word) : (s.enableClear d b).cstart = s.cstart := rfl
@[simp] theorem enableClear_csize (s : State) (d : Domain) (b : Word) : (s.enableClear d b).csize = s.csize := rfl
@[simp] theorem enableClear_cvalid (s : State) (d : Domain) (b : Word) : (s.enableClear d b).cvalid = s.cvalid := rfl
@[simp] theorem enableClear_cursor (s : State) (d : Domain) (b : Word) : (s.enableClear d b).cursor = s.cursor := rfl
@[simp] theorem enableClear_dmacntl (s : State) (d : Domain) (b : Word) : (s.enableClear d b).dmacntl = s.dmacntl := rfl
@[simp] theorem enableClear_fcntl (s : State) (d : Domain) (b : Word) : (s.enableClear d b).fcntl = s.fcntl := rfl
@[simp] theorem enableClear_blnkcol (s : State) (d : Domain) (b : Word) : (s.enableClear d b).blnkcol = s.blnkcol := rfl
@[simp] theorem enableClear_hstartRaw (s : State) (d : Domain) (b : Word) : (s.enableClear d b).hstartRaw = s.hstartRaw := rfl
@[simp] theorem enableClear_hsizeRaw (s : State) (d : Domain) (b : Word) : (s.enableClear d b).hsizeRaw = s.hsizeRaw := rfl
@[simp] theorem enableClear_vstartRaw (s : State) (d : Domain) (b : Word) : (s.enableClear d b).vstartRaw = s.vstartRaw := rfl
@[simp] theorem enableClear_vsizeRaw (s : State) (d : Domain) (b : Word) : (s.enableClear d b).vsizeRaw = s.vsizeRaw := rfl
@[simp] theorem enableClear_hintline (s : State) (d : Domain) (b : Word) : (s.enableClear d b).hintline = s.hintline := rfl
@[simp] theorem enableClear_line (s : State) (d : Domain) (b : Word) : (s.enableClear d b).line = s.line := rfl
@[simp] theorem enableClear_field (s : State) (d : Domain) (b : Word) : (s.enableClear d b).field = s.field := rfl
@[simp] theorem enableClear_fb (s : State) (d : Domain) (b : Word) : (s.enableClear d b).fb = s.fb := rfl
@[simp] theorem enableClear_faults (s : State) (d : Domain) (b : Word) : (s.enableClear d b).faults = s.faults := rfl
@[simp] theorem enableClear_refused (s : State) (d : Domain) (b : Word) : (s.enableClear d b).refused = s.refused := rfl
@[simp] theorem enableClear_log (s : State) (d : Domain) (b : Word) : (s.enableClear d b).log = s.log := rfl

@[simp] theorem promote_cfg (s : State) : (s.promote).cfg = s.cfg := rfl
@[simp] theorem promote_mem (s : State) : (s.promote).mem = s.mem := rfl
@[simp] theorem promote_inbox (s : State) : (s.promote).inbox = s.inbox := rfl
@[simp] theorem promote_output (s : State) : (s.promote).output = s.output := rfl
@[simp] theorem promote_chipControl (s : State) : (s.promote).chipControl = s.chipControl := rfl
@[simp] theorem promote_genable (s : State) : (s.promote).genable = s.genable := rfl
@[simp] theorem promote_dstatus (s : State) : (s.promote).dstatus = s.dstatus := rfl
@[simp] theorem promote_denable (s : State) : (s.promote).denable = s.denable := rfl
@[simp] theorem promote_nstart (s : State) : (s.promote).nstart = s.nstart := rfl
@[simp] theorem promote_nsize (s : State) : (s.promote).nsize = s.nsize := rfl
@[simp] theorem promote_cstart (s : State) : (s.promote).cstart = s.nstart := rfl
@[simp] theorem promote_csize (s : State) : (s.promote).csize = s.nsize := rfl
@[simp] theorem promote_cvalid (s : State) : (s.promote).cvalid = true := rfl
@[simp] theorem promote_cursor (s : State) : (s.promote).cursor = cursorInit s.cfg.cursorInit s.nstart s.nsize (window s).hsize := rfl
@[simp] theorem promote_dmacntl (s : State) : (s.promote).dmacntl = s.dmacntl := rfl
@[simp] theorem promote_fcntl (s : State) : (s.promote).fcntl = s.fcntl := rfl
@[simp] theorem promote_blnkcol (s : State) : (s.promote).blnkcol = s.blnkcol := rfl
@[simp] theorem promote_hstartRaw (s : State) : (s.promote).hstartRaw = s.hstartRaw := rfl
@[simp] theorem promote_hsizeRaw (s : State) : (s.promote).hsizeRaw = s.hsizeRaw := rfl
@[simp] theorem promote_vstartRaw (s : State) : (s.promote).vstartRaw = s.vstartRaw := rfl
@[simp] theorem promote_vsizeRaw (s : State) : (s.promote).vsizeRaw = s.vsizeRaw := rfl
@[simp] theorem promote_hintline (s : State) : (s.promote).hintline = s.hintline := rfl
@[simp] theorem promote_line (s : State) : (s.promote).line = s.line := rfl
@[simp] theorem promote_field (s : State) : (s.promote).field = s.field := rfl
@[simp] theorem promote_fb (s : State) : (s.promote).fb = s.fb := rfl
@[simp] theorem promote_faults (s : State) : (s.promote).faults = s.faults := rfl
@[simp] theorem promote_refused (s : State) : (s.promote).refused = s.refused := rfl
@[simp] theorem promote_log (s : State) : (s.promote).log = s.log := rfl

@[simp] theorem recordFault_cfg (s : State) (f : FaultRecord) : (s.recordFault f).cfg = s.cfg := rfl
@[simp] theorem recordFault_mem (s : State) (f : FaultRecord) : (s.recordFault f).mem = s.mem := rfl
@[simp] theorem recordFault_inbox (s : State) (f : FaultRecord) : (s.recordFault f).inbox = s.inbox := rfl
@[simp] theorem recordFault_output (s : State) (f : FaultRecord) : (s.recordFault f).output = s.output := rfl
@[simp] theorem recordFault_chipControl (s : State) (f : FaultRecord) : (s.recordFault f).chipControl = s.chipControl := rfl
@[simp] theorem recordFault_genable (s : State) (f : FaultRecord) : (s.recordFault f).genable = s.genable := rfl
@[simp] theorem recordFault_dstatus (s : State) (f : FaultRecord) : (s.recordFault f).dstatus = s.dstatus := rfl
@[simp] theorem recordFault_denable (s : State) (f : FaultRecord) : (s.recordFault f).denable = s.denable := rfl
@[simp] theorem recordFault_nstart (s : State) (f : FaultRecord) : (s.recordFault f).nstart = s.nstart := rfl
@[simp] theorem recordFault_nsize (s : State) (f : FaultRecord) : (s.recordFault f).nsize = s.nsize := rfl
@[simp] theorem recordFault_cstart (s : State) (f : FaultRecord) : (s.recordFault f).cstart = s.cstart := rfl
@[simp] theorem recordFault_csize (s : State) (f : FaultRecord) : (s.recordFault f).csize = s.csize := rfl
@[simp] theorem recordFault_cvalid (s : State) (f : FaultRecord) : (s.recordFault f).cvalid = s.cvalid := rfl
@[simp] theorem recordFault_cursor (s : State) (f : FaultRecord) : (s.recordFault f).cursor = s.cursor := rfl
@[simp] theorem recordFault_dmacntl (s : State) (f : FaultRecord) : (s.recordFault f).dmacntl = s.dmacntl := rfl
@[simp] theorem recordFault_fcntl (s : State) (f : FaultRecord) : (s.recordFault f).fcntl = s.fcntl := rfl
@[simp] theorem recordFault_blnkcol (s : State) (f : FaultRecord) : (s.recordFault f).blnkcol = s.blnkcol := rfl
@[simp] theorem recordFault_hstartRaw (s : State) (f : FaultRecord) : (s.recordFault f).hstartRaw = s.hstartRaw := rfl
@[simp] theorem recordFault_hsizeRaw (s : State) (f : FaultRecord) : (s.recordFault f).hsizeRaw = s.hsizeRaw := rfl
@[simp] theorem recordFault_vstartRaw (s : State) (f : FaultRecord) : (s.recordFault f).vstartRaw = s.vstartRaw := rfl
@[simp] theorem recordFault_vsizeRaw (s : State) (f : FaultRecord) : (s.recordFault f).vsizeRaw = s.vsizeRaw := rfl
@[simp] theorem recordFault_hintline (s : State) (f : FaultRecord) : (s.recordFault f).hintline = s.hintline := rfl
@[simp] theorem recordFault_line (s : State) (f : FaultRecord) : (s.recordFault f).line = s.line := rfl
@[simp] theorem recordFault_field (s : State) (f : FaultRecord) : (s.recordFault f).field = s.field := rfl
@[simp] theorem recordFault_fb (s : State) (f : FaultRecord) : (s.recordFault f).fb = s.fb := rfl
@[simp] theorem recordFault_faults (s : State) (f : FaultRecord) : (s.recordFault f).faults = if f ∈ s.faults then s.faults else s.faults ++ [f] := rfl
@[simp] theorem recordFault_refused (s : State) (f : FaultRecord) : (s.recordFault f).refused = s.refused := rfl
@[simp] theorem recordFault_log (s : State) (f : FaultRecord) : (s.recordFault f).log = s.log := rfl

@[simp] theorem refuse_cfg (s : State) : (s.refuse).cfg = s.cfg := rfl
@[simp] theorem refuse_mem (s : State) : (s.refuse).mem = s.mem := rfl
@[simp] theorem refuse_inbox (s : State) : (s.refuse).inbox = s.inbox := rfl
@[simp] theorem refuse_output (s : State) : (s.refuse).output = s.output := rfl
@[simp] theorem refuse_chipControl (s : State) : (s.refuse).chipControl = s.chipControl := rfl
@[simp] theorem refuse_genable (s : State) : (s.refuse).genable = s.genable := rfl
@[simp] theorem refuse_dstatus (s : State) : (s.refuse).dstatus = s.dstatus := rfl
@[simp] theorem refuse_denable (s : State) : (s.refuse).denable = s.denable := rfl
@[simp] theorem refuse_nstart (s : State) : (s.refuse).nstart = s.nstart := rfl
@[simp] theorem refuse_nsize (s : State) : (s.refuse).nsize = s.nsize := rfl
@[simp] theorem refuse_cstart (s : State) : (s.refuse).cstart = s.cstart := rfl
@[simp] theorem refuse_csize (s : State) : (s.refuse).csize = s.csize := rfl
@[simp] theorem refuse_cvalid (s : State) : (s.refuse).cvalid = s.cvalid := rfl
@[simp] theorem refuse_cursor (s : State) : (s.refuse).cursor = s.cursor := rfl
@[simp] theorem refuse_dmacntl (s : State) : (s.refuse).dmacntl = s.dmacntl := rfl
@[simp] theorem refuse_fcntl (s : State) : (s.refuse).fcntl = s.fcntl := rfl
@[simp] theorem refuse_blnkcol (s : State) : (s.refuse).blnkcol = s.blnkcol := rfl
@[simp] theorem refuse_hstartRaw (s : State) : (s.refuse).hstartRaw = s.hstartRaw := rfl
@[simp] theorem refuse_hsizeRaw (s : State) : (s.refuse).hsizeRaw = s.hsizeRaw := rfl
@[simp] theorem refuse_vstartRaw (s : State) : (s.refuse).vstartRaw = s.vstartRaw := rfl
@[simp] theorem refuse_vsizeRaw (s : State) : (s.refuse).vsizeRaw = s.vsizeRaw := rfl
@[simp] theorem refuse_hintline (s : State) : (s.refuse).hintline = s.hintline := rfl
@[simp] theorem refuse_line (s : State) : (s.refuse).line = s.line := rfl
@[simp] theorem refuse_field (s : State) : (s.refuse).field = s.field := rfl
@[simp] theorem refuse_fb (s : State) : (s.refuse).fb = s.fb := rfl
@[simp] theorem refuse_faults (s : State) : (s.refuse).faults = s.faults := rfl
@[simp] theorem refuse_refused (s : State) : (s.refuse).refused = true := rfl
@[simp] theorem refuse_log (s : State) : (s.refuse).log = s.log := rfl

@[simp] theorem raiseVideo_cfg (s : State) (v : VideoSource) : (s.raiseVideo v).cfg = s.cfg := rfl
@[simp] theorem raiseVideo_mem (s : State) (v : VideoSource) : (s.raiseVideo v).mem = s.mem := rfl
@[simp] theorem raiseVideo_inbox (s : State) (v : VideoSource) : (s.raiseVideo v).inbox = s.inbox := rfl
@[simp] theorem raiseVideo_output (s : State) (v : VideoSource) : (s.raiseVideo v).output = s.output := rfl
@[simp] theorem raiseVideo_chipControl (s : State) (v : VideoSource) : (s.raiseVideo v).chipControl = s.chipControl := rfl
@[simp] theorem raiseVideo_genable (s : State) (v : VideoSource) : (s.raiseVideo v).genable = s.genable := rfl
@[simp] theorem raiseVideo_dstatus (s : State) (v : VideoSource) : (s.raiseVideo v).dstatus = s.dstatus.put .video (s.dstatus.at .video ||| mask (s.cfg.vbit.at v)) := rfl
@[simp] theorem raiseVideo_denable (s : State) (v : VideoSource) : (s.raiseVideo v).denable = s.denable := rfl
@[simp] theorem raiseVideo_nstart (s : State) (v : VideoSource) : (s.raiseVideo v).nstart = s.nstart := rfl
@[simp] theorem raiseVideo_nsize (s : State) (v : VideoSource) : (s.raiseVideo v).nsize = s.nsize := rfl
@[simp] theorem raiseVideo_cstart (s : State) (v : VideoSource) : (s.raiseVideo v).cstart = s.cstart := rfl
@[simp] theorem raiseVideo_csize (s : State) (v : VideoSource) : (s.raiseVideo v).csize = s.csize := rfl
@[simp] theorem raiseVideo_cvalid (s : State) (v : VideoSource) : (s.raiseVideo v).cvalid = s.cvalid := rfl
@[simp] theorem raiseVideo_cursor (s : State) (v : VideoSource) : (s.raiseVideo v).cursor = s.cursor := rfl
@[simp] theorem raiseVideo_dmacntl (s : State) (v : VideoSource) : (s.raiseVideo v).dmacntl = s.dmacntl := rfl
@[simp] theorem raiseVideo_fcntl (s : State) (v : VideoSource) : (s.raiseVideo v).fcntl = s.fcntl := rfl
@[simp] theorem raiseVideo_blnkcol (s : State) (v : VideoSource) : (s.raiseVideo v).blnkcol = s.blnkcol := rfl
@[simp] theorem raiseVideo_hstartRaw (s : State) (v : VideoSource) : (s.raiseVideo v).hstartRaw = s.hstartRaw := rfl
@[simp] theorem raiseVideo_hsizeRaw (s : State) (v : VideoSource) : (s.raiseVideo v).hsizeRaw = s.hsizeRaw := rfl
@[simp] theorem raiseVideo_vstartRaw (s : State) (v : VideoSource) : (s.raiseVideo v).vstartRaw = s.vstartRaw := rfl
@[simp] theorem raiseVideo_vsizeRaw (s : State) (v : VideoSource) : (s.raiseVideo v).vsizeRaw = s.vsizeRaw := rfl
@[simp] theorem raiseVideo_hintline (s : State) (v : VideoSource) : (s.raiseVideo v).hintline = s.hintline := rfl
@[simp] theorem raiseVideo_line (s : State) (v : VideoSource) : (s.raiseVideo v).line = s.line := rfl
@[simp] theorem raiseVideo_field (s : State) (v : VideoSource) : (s.raiseVideo v).field = s.field := rfl
@[simp] theorem raiseVideo_fb (s : State) (v : VideoSource) : (s.raiseVideo v).fb = s.fb := rfl
@[simp] theorem raiseVideo_faults (s : State) (v : VideoSource) : (s.raiseVideo v).faults = s.faults := rfl
@[simp] theorem raiseVideo_refused (s : State) (v : VideoSource) : (s.raiseVideo v).refused = s.refused := rfl
@[simp] theorem raiseVideo_log (s : State) (v : VideoSource) : (s.raiseVideo v).log = s.log := rfl

@[simp] theorem frameEnd_cfg (s : State) : (s.frameEnd).cfg = s.cfg := rfl
@[simp] theorem frameEnd_mem (s : State) : (s.frameEnd).mem = s.mem := rfl
@[simp] theorem frameEnd_inbox (s : State) : (s.frameEnd).inbox = s.inbox := rfl
@[simp] theorem frameEnd_output (s : State) : (s.frameEnd).output = s.output ++ [.frameDone s.fb] := rfl
@[simp] theorem frameEnd_chipControl (s : State) : (s.frameEnd).chipControl = s.chipControl := rfl
@[simp] theorem frameEnd_genable (s : State) : (s.frameEnd).genable = s.genable := rfl
@[simp] theorem frameEnd_dstatus (s : State) : (s.frameEnd).dstatus = ((s.raiseVideo (vsyncSource s.field)).raiseVideo .dma).dstatus := rfl
@[simp] theorem frameEnd_denable (s : State) : (s.frameEnd).denable = s.denable := rfl
@[simp] theorem frameEnd_nstart (s : State) : (s.frameEnd).nstart = s.nstart := rfl
@[simp] theorem frameEnd_nsize (s : State) : (s.frameEnd).nsize = s.nsize := rfl
@[simp] theorem frameEnd_cstart (s : State) : (s.frameEnd).cstart = s.cstart := rfl
@[simp] theorem frameEnd_csize (s : State) : (s.frameEnd).csize = s.csize := rfl
@[simp] theorem frameEnd_cvalid (s : State) : (s.frameEnd).cvalid = s.cvalid := rfl
@[simp] theorem frameEnd_cursor (s : State) : (s.frameEnd).cursor = s.cursor := rfl
@[simp] theorem frameEnd_dmacntl (s : State) : (s.frameEnd).dmacntl = s.dmacntl := rfl
@[simp] theorem frameEnd_fcntl (s : State) : (s.frameEnd).fcntl = s.fcntl := rfl
@[simp] theorem frameEnd_blnkcol (s : State) : (s.frameEnd).blnkcol = s.blnkcol := rfl
@[simp] theorem frameEnd_hstartRaw (s : State) : (s.frameEnd).hstartRaw = s.hstartRaw := rfl
@[simp] theorem frameEnd_hsizeRaw (s : State) : (s.frameEnd).hsizeRaw = s.hsizeRaw := rfl
@[simp] theorem frameEnd_vstartRaw (s : State) : (s.frameEnd).vstartRaw = s.vstartRaw := rfl
@[simp] theorem frameEnd_vsizeRaw (s : State) : (s.frameEnd).vsizeRaw = s.vsizeRaw := rfl
@[simp] theorem frameEnd_hintline (s : State) : (s.frameEnd).hintline = s.hintline := rfl
@[simp] theorem frameEnd_line (s : State) : (s.frameEnd).line = 0 := rfl
@[simp] theorem frameEnd_field (s : State) : (s.frameEnd).field = s.field.flip := rfl
@[simp] theorem frameEnd_fb (s : State) : (s.frameEnd).fb = s.fb := rfl
@[simp] theorem frameEnd_faults (s : State) : (s.frameEnd).faults = s.faults := rfl
@[simp] theorem frameEnd_refused (s : State) : (s.frameEnd).refused = s.refused := rfl
@[simp] theorem frameEnd_log (s : State) : (s.frameEnd).log = s.log := rfl

@[simp] theorem resetEvent_cfg (s : State) : s.resetEvent.cfg = (State.powerOn s.cfg).cfg := rfl
@[simp] theorem resetEvent_mem (s : State) : s.resetEvent.mem = s.mem := rfl
@[simp] theorem resetEvent_inbox (s : State) : s.resetEvent.inbox = s.inbox := rfl
@[simp] theorem resetEvent_output (s : State) : s.resetEvent.output = s.output := rfl
@[simp] theorem resetEvent_chipControl (s : State) : s.resetEvent.chipControl = (State.powerOn s.cfg).chipControl := rfl
@[simp] theorem resetEvent_genable (s : State) : s.resetEvent.genable = (State.powerOn s.cfg).genable := rfl
@[simp] theorem resetEvent_dstatus (s : State) : s.resetEvent.dstatus = (State.powerOn s.cfg).dstatus := rfl
@[simp] theorem resetEvent_denable (s : State) : s.resetEvent.denable = (State.powerOn s.cfg).denable := rfl
@[simp] theorem resetEvent_nstart (s : State) : s.resetEvent.nstart = (State.powerOn s.cfg).nstart := rfl
@[simp] theorem resetEvent_nsize (s : State) : s.resetEvent.nsize = (State.powerOn s.cfg).nsize := rfl
@[simp] theorem resetEvent_cstart (s : State) : s.resetEvent.cstart = (State.powerOn s.cfg).cstart := rfl
@[simp] theorem resetEvent_csize (s : State) : s.resetEvent.csize = (State.powerOn s.cfg).csize := rfl
@[simp] theorem resetEvent_cvalid (s : State) : s.resetEvent.cvalid = (State.powerOn s.cfg).cvalid := rfl
@[simp] theorem resetEvent_cursor (s : State) : s.resetEvent.cursor = (State.powerOn s.cfg).cursor := rfl
@[simp] theorem resetEvent_dmacntl (s : State) : s.resetEvent.dmacntl = (State.powerOn s.cfg).dmacntl := rfl
@[simp] theorem resetEvent_fcntl (s : State) : s.resetEvent.fcntl = (State.powerOn s.cfg).fcntl := rfl
@[simp] theorem resetEvent_blnkcol (s : State) : s.resetEvent.blnkcol = (State.powerOn s.cfg).blnkcol := rfl
@[simp] theorem resetEvent_hstartRaw (s : State) : s.resetEvent.hstartRaw = (State.powerOn s.cfg).hstartRaw := rfl
@[simp] theorem resetEvent_hsizeRaw (s : State) : s.resetEvent.hsizeRaw = (State.powerOn s.cfg).hsizeRaw := rfl
@[simp] theorem resetEvent_vstartRaw (s : State) : s.resetEvent.vstartRaw = (State.powerOn s.cfg).vstartRaw := rfl
@[simp] theorem resetEvent_vsizeRaw (s : State) : s.resetEvent.vsizeRaw = (State.powerOn s.cfg).vsizeRaw := rfl
@[simp] theorem resetEvent_hintline (s : State) : s.resetEvent.hintline = (State.powerOn s.cfg).hintline := rfl
@[simp] theorem resetEvent_line (s : State) : s.resetEvent.line = (State.powerOn s.cfg).line := rfl
@[simp] theorem resetEvent_field (s : State) : s.resetEvent.field = (State.powerOn s.cfg).field := rfl
@[simp] theorem resetEvent_fb (s : State) : s.resetEvent.fb = (State.powerOn s.cfg).fb := rfl
@[simp] theorem resetEvent_faults (s : State) : s.resetEvent.faults = s.faults := rfl
@[simp] theorem resetEvent_refused (s : State) : s.resetEvent.refused = s.refused := rfl
@[simp] theorem resetEvent_log (s : State) : s.resetEvent.log = (State.powerOn s.cfg).log := rfl

@[simp] theorem promoteOnWrite_cfg (s : State) : s.promoteOnWrite.cfg = s.cfg := by
  unfold State.promoteOnWrite; split <;> rfl
@[simp] theorem promoteOnWrite_mem (s : State) : s.promoteOnWrite.mem = s.mem := by
  unfold State.promoteOnWrite; split <;> rfl
@[simp] theorem promoteOnWrite_inbox (s : State) : s.promoteOnWrite.inbox = s.inbox := by
  unfold State.promoteOnWrite; split <;> rfl
@[simp] theorem promoteOnWrite_output (s : State) : s.promoteOnWrite.output = s.output := by
  unfold State.promoteOnWrite; split <;> rfl
@[simp] theorem promoteOnWrite_chipControl (s : State) : s.promoteOnWrite.chipControl = s.chipControl := by
  unfold State.promoteOnWrite; split <;> rfl
@[simp] theorem promoteOnWrite_genable (s : State) : s.promoteOnWrite.genable = s.genable := by
  unfold State.promoteOnWrite; split <;> rfl
@[simp] theorem promoteOnWrite_dstatus (s : State) : s.promoteOnWrite.dstatus = s.dstatus := by
  unfold State.promoteOnWrite; split <;> rfl
@[simp] theorem promoteOnWrite_denable (s : State) : s.promoteOnWrite.denable = s.denable := by
  unfold State.promoteOnWrite; split <;> rfl
@[simp] theorem promoteOnWrite_nstart (s : State) : s.promoteOnWrite.nstart = s.nstart := by
  unfold State.promoteOnWrite; split <;> rfl
@[simp] theorem promoteOnWrite_nsize (s : State) : s.promoteOnWrite.nsize = s.nsize := by
  unfold State.promoteOnWrite; split <;> rfl
@[simp] theorem promoteOnWrite_dmacntl (s : State) : s.promoteOnWrite.dmacntl = s.dmacntl := by
  unfold State.promoteOnWrite; split <;> rfl
@[simp] theorem promoteOnWrite_fcntl (s : State) : s.promoteOnWrite.fcntl = s.fcntl := by
  unfold State.promoteOnWrite; split <;> rfl
@[simp] theorem promoteOnWrite_blnkcol (s : State) : s.promoteOnWrite.blnkcol = s.blnkcol := by
  unfold State.promoteOnWrite; split <;> rfl
@[simp] theorem promoteOnWrite_hstartRaw (s : State) : s.promoteOnWrite.hstartRaw = s.hstartRaw := by
  unfold State.promoteOnWrite; split <;> rfl
@[simp] theorem promoteOnWrite_hsizeRaw (s : State) : s.promoteOnWrite.hsizeRaw = s.hsizeRaw := by
  unfold State.promoteOnWrite; split <;> rfl
@[simp] theorem promoteOnWrite_vstartRaw (s : State) : s.promoteOnWrite.vstartRaw = s.vstartRaw := by
  unfold State.promoteOnWrite; split <;> rfl
@[simp] theorem promoteOnWrite_vsizeRaw (s : State) : s.promoteOnWrite.vsizeRaw = s.vsizeRaw := by
  unfold State.promoteOnWrite; split <;> rfl
@[simp] theorem promoteOnWrite_hintline (s : State) : s.promoteOnWrite.hintline = s.hintline := by
  unfold State.promoteOnWrite; split <;> rfl
@[simp] theorem promoteOnWrite_line (s : State) : s.promoteOnWrite.line = s.line := by
  unfold State.promoteOnWrite; split <;> rfl
@[simp] theorem promoteOnWrite_field (s : State) : s.promoteOnWrite.field = s.field := by
  unfold State.promoteOnWrite; split <;> rfl
@[simp] theorem promoteOnWrite_fb (s : State) : s.promoteOnWrite.fb = s.fb := by
  unfold State.promoteOnWrite; split <;> rfl
@[simp] theorem promoteOnWrite_faults (s : State) : s.promoteOnWrite.faults = s.faults := by
  unfold State.promoteOnWrite; split <;> rfl
@[simp] theorem promoteOnWrite_refused (s : State) : s.promoteOnWrite.refused = s.refused := by
  unfold State.promoteOnWrite; split <;> rfl
@[simp] theorem promoteOnWrite_log (s : State) : s.promoteOnWrite.log = s.log := by
  unfold State.promoteOnWrite; split <;> rfl

@[simp] theorem frameBegin_cfg (s : State) : s.frameBegin.cfg = s.cfg := by
  unfold State.frameBegin; split <;> rfl
@[simp] theorem frameBegin_mem (s : State) : s.frameBegin.mem = s.mem := by
  unfold State.frameBegin; split <;> rfl
@[simp] theorem frameBegin_inbox (s : State) : s.frameBegin.inbox = s.inbox := by
  unfold State.frameBegin; split <;> rfl
@[simp] theorem frameBegin_output (s : State) : s.frameBegin.output = s.output := by
  unfold State.frameBegin; split <;> rfl
@[simp] theorem frameBegin_chipControl (s : State) : s.frameBegin.chipControl = s.chipControl := by
  unfold State.frameBegin; split <;> rfl
@[simp] theorem frameBegin_genable (s : State) : s.frameBegin.genable = s.genable := by
  unfold State.frameBegin; split <;> rfl
@[simp] theorem frameBegin_dstatus (s : State) : s.frameBegin.dstatus = s.dstatus := by
  unfold State.frameBegin; split <;> rfl
@[simp] theorem frameBegin_denable (s : State) : s.frameBegin.denable = s.denable := by
  unfold State.frameBegin; split <;> rfl
@[simp] theorem frameBegin_nstart (s : State) : s.frameBegin.nstart = s.nstart := by
  unfold State.frameBegin; split <;> rfl
@[simp] theorem frameBegin_nsize (s : State) : s.frameBegin.nsize = s.nsize := by
  unfold State.frameBegin; split <;> rfl
@[simp] theorem frameBegin_dmacntl (s : State) : s.frameBegin.dmacntl = s.dmacntl := by
  unfold State.frameBegin; split <;> rfl
@[simp] theorem frameBegin_fcntl (s : State) : s.frameBegin.fcntl = s.fcntl := by
  unfold State.frameBegin; split <;> rfl
@[simp] theorem frameBegin_blnkcol (s : State) : s.frameBegin.blnkcol = s.blnkcol := by
  unfold State.frameBegin; split <;> rfl
@[simp] theorem frameBegin_hstartRaw (s : State) : s.frameBegin.hstartRaw = s.hstartRaw := by
  unfold State.frameBegin; split <;> rfl
@[simp] theorem frameBegin_hsizeRaw (s : State) : s.frameBegin.hsizeRaw = s.hsizeRaw := by
  unfold State.frameBegin; split <;> rfl
@[simp] theorem frameBegin_vstartRaw (s : State) : s.frameBegin.vstartRaw = s.vstartRaw := by
  unfold State.frameBegin; split <;> rfl
@[simp] theorem frameBegin_vsizeRaw (s : State) : s.frameBegin.vsizeRaw = s.vsizeRaw := by
  unfold State.frameBegin; split <;> rfl
@[simp] theorem frameBegin_hintline (s : State) : s.frameBegin.hintline = s.hintline := by
  unfold State.frameBegin; split <;> rfl
@[simp] theorem frameBegin_line (s : State) : s.frameBegin.line = s.line := by
  unfold State.frameBegin; split <;> rfl
@[simp] theorem frameBegin_field (s : State) : s.frameBegin.field = s.field := by
  unfold State.frameBegin; split <;> rfl
@[simp] theorem frameBegin_fb (s : State) : s.frameBegin.fb = s.fb := by
  unfold State.frameBegin; split <;> rfl
@[simp] theorem frameBegin_faults (s : State) : s.frameBegin.faults = s.faults := by
  unfold State.frameBegin; split <;> rfl
@[simp] theorem frameBegin_refused (s : State) : s.frameBegin.refused = s.refused := by
  unfold State.frameBegin; split <;> rfl
@[simp] theorem frameBegin_log (s : State) : s.frameBegin.log = s.log := by
  unfold State.frameBegin; split <;> rfl

@[simp] theorem hsyncMatch_cfg (s : State) (y : Nat) : (s.hsyncMatch y).cfg = s.cfg := by
  unfold State.hsyncMatch; split <;> rfl
@[simp] theorem hsyncMatch_mem (s : State) (y : Nat) : (s.hsyncMatch y).mem = s.mem := by
  unfold State.hsyncMatch; split <;> rfl
@[simp] theorem hsyncMatch_inbox (s : State) (y : Nat) : (s.hsyncMatch y).inbox = s.inbox := by
  unfold State.hsyncMatch; split <;> rfl
@[simp] theorem hsyncMatch_output (s : State) (y : Nat) : (s.hsyncMatch y).output = s.output := by
  unfold State.hsyncMatch; split <;> rfl
@[simp] theorem hsyncMatch_chipControl (s : State) (y : Nat) : (s.hsyncMatch y).chipControl = s.chipControl := by
  unfold State.hsyncMatch; split <;> rfl
@[simp] theorem hsyncMatch_genable (s : State) (y : Nat) : (s.hsyncMatch y).genable = s.genable := by
  unfold State.hsyncMatch; split <;> rfl
@[simp] theorem hsyncMatch_denable (s : State) (y : Nat) : (s.hsyncMatch y).denable = s.denable := by
  unfold State.hsyncMatch; split <;> rfl
@[simp] theorem hsyncMatch_nstart (s : State) (y : Nat) : (s.hsyncMatch y).nstart = s.nstart := by
  unfold State.hsyncMatch; split <;> rfl
@[simp] theorem hsyncMatch_nsize (s : State) (y : Nat) : (s.hsyncMatch y).nsize = s.nsize := by
  unfold State.hsyncMatch; split <;> rfl
@[simp] theorem hsyncMatch_cstart (s : State) (y : Nat) : (s.hsyncMatch y).cstart = s.cstart := by
  unfold State.hsyncMatch; split <;> rfl
@[simp] theorem hsyncMatch_csize (s : State) (y : Nat) : (s.hsyncMatch y).csize = s.csize := by
  unfold State.hsyncMatch; split <;> rfl
@[simp] theorem hsyncMatch_cvalid (s : State) (y : Nat) : (s.hsyncMatch y).cvalid = s.cvalid := by
  unfold State.hsyncMatch; split <;> rfl
@[simp] theorem hsyncMatch_cursor (s : State) (y : Nat) : (s.hsyncMatch y).cursor = s.cursor := by
  unfold State.hsyncMatch; split <;> rfl
@[simp] theorem hsyncMatch_dmacntl (s : State) (y : Nat) : (s.hsyncMatch y).dmacntl = s.dmacntl := by
  unfold State.hsyncMatch; split <;> rfl
@[simp] theorem hsyncMatch_fcntl (s : State) (y : Nat) : (s.hsyncMatch y).fcntl = s.fcntl := by
  unfold State.hsyncMatch; split <;> rfl
@[simp] theorem hsyncMatch_blnkcol (s : State) (y : Nat) : (s.hsyncMatch y).blnkcol = s.blnkcol := by
  unfold State.hsyncMatch; split <;> rfl
@[simp] theorem hsyncMatch_hstartRaw (s : State) (y : Nat) : (s.hsyncMatch y).hstartRaw = s.hstartRaw := by
  unfold State.hsyncMatch; split <;> rfl
@[simp] theorem hsyncMatch_hsizeRaw (s : State) (y : Nat) : (s.hsyncMatch y).hsizeRaw = s.hsizeRaw := by
  unfold State.hsyncMatch; split <;> rfl
@[simp] theorem hsyncMatch_vstartRaw (s : State) (y : Nat) : (s.hsyncMatch y).vstartRaw = s.vstartRaw := by
  unfold State.hsyncMatch; split <;> rfl
@[simp] theorem hsyncMatch_vsizeRaw (s : State) (y : Nat) : (s.hsyncMatch y).vsizeRaw = s.vsizeRaw := by
  unfold State.hsyncMatch; split <;> rfl
@[simp] theorem hsyncMatch_hintline (s : State) (y : Nat) : (s.hsyncMatch y).hintline = s.hintline := by
  unfold State.hsyncMatch; split <;> rfl
@[simp] theorem hsyncMatch_line (s : State) (y : Nat) : (s.hsyncMatch y).line = s.line := by
  unfold State.hsyncMatch; split <;> rfl
@[simp] theorem hsyncMatch_field (s : State) (y : Nat) : (s.hsyncMatch y).field = s.field := by
  unfold State.hsyncMatch; split <;> rfl
@[simp] theorem hsyncMatch_fb (s : State) (y : Nat) : (s.hsyncMatch y).fb = s.fb := by
  unfold State.hsyncMatch; split <;> rfl
@[simp] theorem hsyncMatch_faults (s : State) (y : Nat) : (s.hsyncMatch y).faults = s.faults := by
  unfold State.hsyncMatch; split <;> rfl
@[simp] theorem hsyncMatch_refused (s : State) (y : Nat) : (s.hsyncMatch y).refused = s.refused := by
  unfold State.hsyncMatch; split <;> rfl
@[simp] theorem hsyncMatch_log (s : State) (y : Nat) : (s.hsyncMatch y).log = s.log := by
  unfold State.hsyncMatch; split <;> rfl

@[simp] theorem lineBegin_cfg (s : State) : s.lineBegin.cfg = s.cfg := by
  unfold State.lineBegin; split <;> simp
@[simp] theorem lineBegin_mem (s : State) : s.lineBegin.mem = s.mem := by
  unfold State.lineBegin; split <;> simp
@[simp] theorem lineBegin_inbox (s : State) : s.lineBegin.inbox = s.inbox := by
  unfold State.lineBegin; split <;> simp
@[simp] theorem lineBegin_output (s : State) : s.lineBegin.output = s.output := by
  unfold State.lineBegin; split <;> simp
@[simp] theorem lineBegin_chipControl (s : State) : s.lineBegin.chipControl = s.chipControl := by
  unfold State.lineBegin; split <;> simp
@[simp] theorem lineBegin_genable (s : State) : s.lineBegin.genable = s.genable := by
  unfold State.lineBegin; split <;> simp
@[simp] theorem lineBegin_denable (s : State) : s.lineBegin.denable = s.denable := by
  unfold State.lineBegin; split <;> simp
@[simp] theorem lineBegin_nstart (s : State) : s.lineBegin.nstart = s.nstart := by
  unfold State.lineBegin; split <;> simp
@[simp] theorem lineBegin_nsize (s : State) : s.lineBegin.nsize = s.nsize := by
  unfold State.lineBegin; split <;> simp
@[simp] theorem lineBegin_dmacntl (s : State) : s.lineBegin.dmacntl = s.dmacntl := by
  unfold State.lineBegin; split <;> simp
@[simp] theorem lineBegin_fcntl (s : State) : s.lineBegin.fcntl = s.fcntl := by
  unfold State.lineBegin; split <;> simp
@[simp] theorem lineBegin_blnkcol (s : State) : s.lineBegin.blnkcol = s.blnkcol := by
  unfold State.lineBegin; split <;> simp
@[simp] theorem lineBegin_hstartRaw (s : State) : s.lineBegin.hstartRaw = s.hstartRaw := by
  unfold State.lineBegin; split <;> simp
@[simp] theorem lineBegin_hsizeRaw (s : State) : s.lineBegin.hsizeRaw = s.hsizeRaw := by
  unfold State.lineBegin; split <;> simp
@[simp] theorem lineBegin_vstartRaw (s : State) : s.lineBegin.vstartRaw = s.vstartRaw := by
  unfold State.lineBegin; split <;> simp
@[simp] theorem lineBegin_vsizeRaw (s : State) : s.lineBegin.vsizeRaw = s.vsizeRaw := by
  unfold State.lineBegin; split <;> simp
@[simp] theorem lineBegin_hintline (s : State) : s.lineBegin.hintline = s.hintline := by
  unfold State.lineBegin; split <;> simp
@[simp] theorem lineBegin_line (s : State) : s.lineBegin.line = s.line := by
  unfold State.lineBegin; split <;> simp
@[simp] theorem lineBegin_field (s : State) : s.lineBegin.field = s.field := by
  unfold State.lineBegin; split <;> simp
@[simp] theorem lineBegin_fb (s : State) : s.lineBegin.fb = s.fb := by
  unfold State.lineBegin; split <;> simp
@[simp] theorem lineBegin_faults (s : State) : s.lineBegin.faults = s.faults := by
  unfold State.lineBegin; split <;> simp
@[simp] theorem lineBegin_refused (s : State) : s.lineBegin.refused = s.refused := by
  unfold State.lineBegin; split <;> simp
@[simp] theorem lineBegin_log (s : State) : s.lineBegin.log = s.log := by
  unfold State.lineBegin; split <;> simp

end Sys2Proof.Machine
end

