-- ==== Sys2Proof/Laws/Ops.lean ====
section
/-! SUPPORT. One lemma per shared operation that says everything it can do, so that proofs cite it
instead of unfolding the operation. -/

namespace Sys2Proof.Machine

/-- Replacing one domain's value leaves the others. -/
theorem put_at (w : DomainWords) (d e : Domain) (v : Word) :
    (w.put d v).at e = if e = d then v else w.at e := by
  cases d <;> cases e <;> rfl

@[simp] theorem put_at_self (w : DomainWords) (d : Domain) (v : Word) : (w.put d v).at d = v := by
  cases d <;> rfl

@[simp] theorem put_at_ne (w : DomainWords) {d e : Domain} (v : Word) (h : e ≠ d) :
    (w.put d v).at e = w.at e := by
  rw [put_at, if_neg h]

/-- Raise ORs the bits into its own domain. -/
theorem raise_at (s : State) (d e : Domain) (b : Word) :
    (s.raise d b).dstatus.at e = if e = d then s.dstatus.at d ||| b else s.dstatus.at e :=
  put_at ..

/-- Lower AND-NOTs the bits out of its own domain. -/
theorem lower_at (s : State) (d e : Domain) (b : Word) :
    (s.lower d b).dstatus.at e = if e = d then s.dstatus.at d &&& ~~~b else s.dstatus.at e :=
  put_at ..

/-- Write 1 to set, in its own domain. -/
theorem enableSet_at (s : State) (d e : Domain) (b : Word) :
    (s.enableSet d b).denable.at e = if e = d then s.denable.at d ||| b else s.denable.at e :=
  put_at ..

/-- Write 1 to clear, in its own domain. -/
theorem enableClear_at (s : State) (d e : Domain) (b : Word) :
    (s.enableClear d b).denable.at e = if e = d then s.denable.at d &&& ~~~b else s.denable.at e :=
  put_at ..

/-- PromoteOnWrite promotes where NVF is 1 and else does nothing. -/
theorem promoteOnWrite_cases (s : State) :
    (nvf s = true ∧ s.promoteOnWrite = s.promote) ∨ (nvf s = false ∧ s.promoteOnWrite = s) := by
  unfold State.promoteOnWrite
  cases h : nvf s <;> simp

/-- FrameBegin promotes where NV is 1 and else does nothing. -/
theorem frameBegin_cases (s : State) :
    (nv s = true ∧ s.frameBegin = s.promote) ∨ (nv s = false ∧ s.frameBegin = s) := by
  unfold State.frameBegin
  cases h : nv s <;> simp

/-- The line match raises HSYNC on its line and else does nothing. -/
theorem hsyncMatch_cases (s : State) (y : Nat) :
    (BitVec.ofNat 32 y = s.hintline ∧ s.hsyncMatch y = s.raiseVideo .hsync)
      ∨ (BitVec.ofNat 32 y ≠ s.hintline ∧ s.hsyncMatch y = s) := by
  unfold State.hsyncMatch
  by_cases h : BitVec.ofNat 32 y = s.hintline <;> simp [h]

/-- The start of a line step: promotion on line 0 under NV, and the line match. -/
theorem lineBegin_cases (s : State) :
    (s.line = 0 ∧ nv s = true ∧ s.lineBegin = s.promote.hsyncMatch s.line)
      ∨ (¬ (s.line = 0 ∧ nv s = true) ∧ s.lineBegin = s.hsyncMatch s.line) := by
  unfold State.lineBegin State.frameBegin
  by_cases h : s.line = 0 <;> cases hn : nv s <;> simp [h]

/-- Fetch: the word and the advanced cursor, or one of the two records, alignment first. -/
theorem fetch_cases (s : State) (a : Word) :
    (fetchAligned a = true ∧ fetchInBuffer s a = true
        ∧ fetch s a = .ok (memRead s.cfg.byteOrder s.mem a, a + 4#32))
      ∨ (fetchAligned a = false ∧ fetch s a = .error (.misalignedFetch a))
      ∨ (fetchAligned a = true ∧ fetchInBuffer s a = false
        ∧ fetch s a = .error (.cursorOverrun a)) := by
  unfold fetch
  cases h : fetchAligned a <;> cases h' : fetchInBuffer s a <;> simp [pairBytes, bytesPerPixel]

/-- A pair word is fetched where the fetch is enabled and the pair is active, and else is the word of an
unfetched pair with the cursor unmoved. -/
theorem pairWord_cases (s : State) (win : ActiveWindow) (y x : Nat) (a : Word) :
    ((fetchEnabled s && win.contains x y) = true ∧ pairWord s win y x a = fetch s a)
      ∨ ((fetchEnabled s && win.contains x y) = false
        ∧ pairWord s win y x a = .ok (unfetchedWord s, a)) := by
  unfold pairWord
  cases h : fetchEnabled s && win.contains x y <;> simp

/-- One more pair of a row: its pair word, then the pairs after it. -/
theorem pairCells_succ_ok {s : State} {win : ActiveWindow} {y n x : Nat} {a b : Word}
    {cells : List (Option Rgb)} (h : pairCells s win y (n + 1) x a = .ok (cells, b)) :
    ∃ w a' rest, pairWord s win y x a = .ok (w, a') ∧ pairCells s win y n (x + 2) a' = .ok (rest, b)
      ∧ cells = some (pairPixels s.cfg.csc w).1 :: some (pairPixels s.cfg.csc w).2 :: rest := by
  unfold pairCells at h
  split at h
  · cases h
  · rename_i w a' hw
    split at h
    · cases h
    · rename_i rest b' hr
      cases h
      exact ⟨w, a', rest, hw, hr, rfl⟩

/-- A row that faults does so at its first pair, or after it. -/
theorem pairCells_succ_error {s : State} {win : ActiveWindow} {y n x : Nat} {a : Word}
    {f : FaultRecord} (h : pairCells s win y (n + 1) x a = .error f) :
    pairWord s win y x a = .error f
      ∨ ∃ w a', pairWord s win y x a = .ok (w, a') ∧ pairCells s win y n (x + 2) a' = .error f := by
  unfold pairCells at h
  split at h
  · rename_i hw; cases h; exact .inl hw
  · rename_i w a' hw
    split at h
    · rename_i hr; cases h; exact .inr ⟨w, a', hw, hr⟩
    · cases h

/-- A produced row writes its cells and moves the cursor, and nothing else. -/
theorem produceRow_ok {s t : State} {y : Nat} (h : produceRow s y = .ok t) :
    ∃ cells a, pairCells s (window s) y (s.cfg.screenWidth / 2) 0 s.cursor = .ok (cells, a)
      ∧ t = { s with fb := s.fb.set y cells, cursor := a } := by
  unfold produceRow at h
  split at h
  · cases h
  · rename_i cells a hc; cases h; exact ⟨cells, a, hc, rfl⟩

/-- A row faults exactly where its pairs do. -/
theorem produceRow_error {s : State} {y : Nat} {f : FaultRecord} (h : produceRow s y = .error f) :
    pairCells s (window s) y (s.cfg.screenWidth / 2) 0 s.cursor = .error f := by
  unfold produceRow at h
  split at h
  · rename_i hc; cases h; exact hc
  · cases h

/-- The visible part of a line step: nothing on a line beyond the screen, else the row. -/
theorem lineRow_cases (s : State) :
    (s.line < s.cfg.screenHeight ∧ s.lineRow = produceRow s s.line)
      ∨ (s.cfg.screenHeight ≤ s.line ∧ s.lineRow = .ok s) := by
  unfold State.lineRow
  by_cases h : s.line < s.cfg.screenHeight
  · exact .inl ⟨h, if_pos h⟩
  · exact .inr ⟨by omega, if_neg h⟩

/-- The line step: none in a faulted state, the record alone where the row faults, else the end of the
step over the state with the row. -/
theorem lineStep_cases (s : State) :
    (s.faults ≠ [] ∧ s.lineStep = s)
      ∨ (s.faults = [] ∧ ∃ f, s.lineBegin.lineRow = .error f ∧ s.lineStep = s.recordFault f)
      ∨ (s.faults = [] ∧ ∃ t, s.lineBegin.lineRow = .ok t ∧ s.lineStep = t.lineEnd) := by
  unfold State.lineStep
  by_cases h : s.faults = []
  · simp only [if_pos h]
    cases hr : s.lineBegin.lineRow with
    | error f => exact .inr (.inl ⟨h, f, rfl, rfl⟩)
    | ok t => exact .inr (.inr ⟨h, t, rfl, rfl⟩)
  · exact .inl ⟨h, if_neg h⟩

/-- The end of a line step: the frame's end on the last line, else the next line. -/
theorem lineEnd_cases (s : State) :
    (s.line = s.cfg.totalLines - 1 ∧ s.lineEnd = s.frameEnd)
      ∨ (s.line ≠ s.cfg.totalLines - 1 ∧ s.lineEnd = { s with line := s.line + 1 }) := by
  unfold State.lineEnd
  by_cases h : s.line = s.cfg.totalLines - 1
  · exact .inl ⟨h, if_pos h⟩
  · exact .inr ⟨h, if_neg h⟩

/-- The step: idle with no input, else the store of the host or the decoded transaction. -/
theorem step_cases (s : State) :
    (s.inbox = [] ∧ step s = .next s)
      ∨ (∃ addr value rest, s.inbox = .hostStore addr value :: rest
        ∧ step s = .next (hostStore addr value { s with inbox := rest }))
      ∨ (∃ x rest, s.inbox = .transaction x :: rest
        ∧ step s = exec (decode s.cfg x) { s with inbox := rest }) := by
  unfold step takeInput
  cases h : s.inbox with
  | nil => exact .inl ⟨rfl, rfl⟩
  | cons i rest =>
    cases i with
    | transaction x => exact .inr (.inr ⟨x, rest, rfl, rfl⟩)
    | hostStore addr value => exact .inr (.inl ⟨addr, value, rest, rfl, rfl⟩)

/-- The write of a pair's address is the one transaction where the pair has registers, and none where
`DOMAIN_REGS` declares its domain absent. -/
theorem pairWrite_cases (cfg : Config) (p : PairName) (i : Instr) :
    (p.mapped cfg = true ∧ pairWrite cfg p i = [i])
      ∨ ((∃ d, p = .collab d ∧ cfg.domainRegs.at d = none) ∧ pairWrite cfg p i = []) := by
  unfold pairWrite PairName.mapped
  cases p with
  | global => simp
  | video => simp
  | collab d => cases h : cfg.domainRegs.at d <;> simp [h]

end Sys2Proof.Machine
end

