-- ==== Sys2Proof/Laws/PerInstr.lean ====
section
/-! SUPPORT. Facts about every transaction as syntax, one lemma per constructor: the fixed fields that
spec/opcode_table.json gives a row are the encoder's. -/

namespace Sys2Proof

/-- The number in bits `hi` to `lo` of a command. -/
def commandField (cmd : BitVec 16) (hi lo : Nat) : Nat := cmd.toNat / 2 ^ lo % 2 ^ (hi + 1 - lo)

theorem toNat_append_eq {n m : Nat} (x : BitVec n) (y : BitVec m) :
    (x ++ y).toNat = x.toNat * 2 ^ m + y.toNat := by
  rw [BitVec.toNat_append, ← Nat.shiftLeft_add_eq_or_of_lt y.isLt, Nat.shiftLeft_eq]

theorem accessCmd_toNat (kind width : BitVec 2) (offset : Offset) :
    (accessCmd kind width offset).toNat
      = kind.toNat * 2 ^ 14 + width.toNat * 2 ^ 12 + offset.toNat := by
  show (kind ++ (width ++ offset)).toNat = _
  rw [toNat_append_eq, toNat_append_eq]
  omega

theorem eventCmd_toNat (zeroHi : BitVec 2) (ev : BitVec 4) (zeroLo : BitVec 5) (dom : BitVec 3) :
    (eventCmd zeroHi ev zeroLo dom).toNat
      = 2 * 2 ^ 14 + zeroHi.toNat * 2 ^ 12 + ev.toNat * 2 ^ 8 + zeroLo.toNat * 2 ^ 3 + dom.toNat := by
  show (0b10#2 ++ (zeroHi ++ (ev ++ (zeroLo ++ dom)))).toNat = _
  rw [toNat_append_eq, toNat_append_eq, toNat_append_eq, toNat_append_eq]
  simp only [BitVec.toNat_ofNat]
  omega

theorem wordAligned_iff (offset : Offset) : wordAligned offset = true ↔ offset.toNat % 4 = 0 := by
  simp only [wordAligned, beq_iff_eq, ← BitVec.toNat_inj, BitVec.extractLsb'_toNat]
  simp

theorem refusedKind_toNat (rest : BitVec 14) :
    ((0b11#2 ++ rest : BitVec 16)).toNat = 3 * 2 ^ 14 + rest.toNat := by
  show (0b11#2 ++ rest).toNat = _
  rw [toNat_append_eq]
  rfl

/-- The fixed fields of a row as spec/opcode_table.json lists them: high bit, low bit, value. For a
collaborator domain's row, whose offset is a parameter, they are KIND and WIDTH. -/
def fixedFields : Instr → List (Nat × Nat × Nat)
  | .rdChipId => [(15, 0, 0)]
  | .wrChipId _ => [(15, 0, 16384)]
  | .rdChipControl => [(15, 0, 4)]
  | .wrChipControl _ => [(15, 0, 16388)]
  | .rdIntStatus => [(15, 0, 8)]
  | .wrIntStatus _ => [(15, 0, 16392)]
  | .rdIntEnableS => [(15, 0, 12)]
  | .wrIntEnableS _ => [(15, 0, 16396)]
  | .rdIntStatusC => [(15, 0, 264)]
  | .wrIntStatusC _ => [(15, 0, 16648)]
  | .rdIntEnableC => [(15, 0, 268)]
  | .wrIntEnableC _ => [(15, 0, 16652)]
  | .rdVidCstart => [(15, 0, 768)]
  | .wrVidCstart _ => [(15, 0, 17152)]
  | .rdVidCsize => [(15, 0, 772)]
  | .wrVidCsize _ => [(15, 0, 17156)]
  | .rdVidCcnt => [(15, 0, 776)]
  | .wrVidCcnt _ => [(15, 0, 17160)]
  | .rdVidNstart => [(15, 0, 780)]
  | .wrVidNstart _ => [(15, 0, 17164)]
  | .rdVidNsize => [(15, 0, 784)]
  | .wrVidNsize _ => [(15, 0, 17168)]
  | .rdVidDmacntl => [(15, 0, 788)]
  | .wrVidDmacntl _ => [(15, 0, 17172)]
  | .rdVidFcntl => [(15, 0, 792)]
  | .wrVidFcntl _ => [(15, 0, 17176)]
  | .rdVidBlnkcol => [(15, 0, 796)]
  | .wrVidBlnkcol _ => [(15, 0, 17180)]
  | .rdVidHstart => [(15, 0, 800)]
  | .wrVidHstart _ => [(15, 0, 17184)]
  | .rdVidHsize => [(15, 0, 804)]
  | .wrVidHsize _ => [(15, 0, 17188)]
  | .rdVidVstart => [(15, 0, 808)]
  | .wrVidVstart _ => [(15, 0, 17192)]
  | .rdVidVsize => [(15, 0, 812)]
  | .wrVidVsize _ => [(15, 0, 17196)]
  | .rdVidHintline => [(15, 0, 816)]
  | .wrVidHintline _ => [(15, 0, 17200)]
  | .rdVidCline => [(15, 0, 820)]
  | .wrVidCline _ => [(15, 0, 17204)]
  | .rdVidIntstatS => [(15, 0, 824)]
  | .wrVidIntstatS _ => [(15, 0, 17208)]
  | .rdVidIntenS => [(15, 0, 828)]
  | .wrVidIntenS _ => [(15, 0, 17212)]
  | .rdVidIntstatC => [(15, 0, 1080)]
  | .wrVidIntstatC _ => [(15, 0, 17464)]
  | .rdVidIntenC => [(15, 0, 1084)]
  | .wrVidIntenC _ => [(15, 0, 17468)]
  | .rdDomStatusS _ => [(15, 12, 0)]
  | .rdDomStatusC _ => [(15, 12, 0)]
  | .rdDomEnableS _ => [(15, 12, 0)]
  | .rdDomEnableC _ => [(15, 12, 0)]
  | .wrDomStatusS _ _ => [(15, 12, 4)]
  | .wrDomStatusC _ _ => [(15, 12, 4)]
  | .wrDomEnableS _ _ => [(15, 12, 4)]
  | .wrDomEnableC _ _ => [(15, 12, 4)]
  | .raiseAudio _ => [(15, 0, 33026)]
  | .lowerAudio _ => [(15, 0, 33282)]
  | .raiseDevio _ => [(15, 0, 33027)]
  | .lowerDevio _ => [(15, 0, 33283)]
  | .raiseRio _ => [(15, 0, 33028)]
  | .lowerRio _ => [(15, 0, 33284)]
  | .raiseTimer _ => [(15, 0, 33029)]
  | .lowerTimer _ => [(15, 0, 33285)]
  | .line => [(15, 0, 32768)]
  | .reset => [(15, 0, 33536)]
  | .rdReserved _ => [(1, 0, 0), (15, 12, 0)]
  | .wrReserved _ _ => [(1, 0, 0), (15, 12, 4)]
  | .refusedReservedKind _ => [(15, 14, 3)]
  | .refusedNotWordWidthRd _ _ => [(15, 14, 0)]
  | .refusedNotWordWidthWr _ _ => [(15, 14, 1)]
  | .refusedMisalignedOffsetRd _ => [(15, 12, 0)]
  | .refusedMisalignedOffsetWr _ => [(15, 12, 4)]
  | .refusedBadEvent _ _ _ _ => [(15, 14, 2)]
  | .refusedBadDomain _ _ => [(15, 14, 2)]

theorem kindWidth_field (kind width : BitVec 2) (offset : Offset) :
    commandField (accessCmd kind width offset) 15 12 = kind.toNat * 4 + width.toNat := by
  have := kind.isLt
  have := width.isLt
  have := offset.isLt
  rw [commandField, accessCmd_toNat]
  omega

theorem whole_field (cmd : BitVec 16) : commandField cmd 15 0 = cmd.toNat := by
  have := cmd.isLt
  rw [commandField]
  omega

theorem kind_field (kind width : BitVec 2) (offset : Offset) :
    commandField (accessCmd kind width offset) 15 14 = kind.toNat := by
  have := kind.isLt
  have := width.isLt
  have := offset.isLt
  rw [commandField, accessCmd_toNat]
  omega

theorem lowBits_field (kind width : BitVec 2) (offset : Offset) :
    commandField (accessCmd kind width offset) 1 0 = offset.toNat % 4 := by
  rw [commandField, accessCmd_toNat]
  omega

theorem eventKind_field (zeroHi : BitVec 2) (ev : BitVec 4) (zeroLo : BitVec 5) (dom : BitVec 3) :
    commandField (eventCmd zeroHi ev zeroLo dom) 15 14 = 2 := by
  have := zeroHi.isLt
  have := ev.isLt
  have := zeroLo.isLt
  have := dom.isLt
  rw [commandField, eventCmd_toNat]
  omega

theorem refusedKind_field (rest : BitVec 14) : commandField (0b11#2 ++ rest) 15 14 = 3 := by
  have := rest.isLt
  rw [commandField, refusedKind_toNat]
  omega

theorem reserved_fields (kind : BitVec 2) (offset : Offset) (h : wordAligned offset = true) :
    ∀ f ∈ [(1, 0, 0), (15, 12, kind.toNat * 4)],
      commandField (accessCmd kind 0b00#2 offset) f.1 f.2.1 = f.2.2 :=
  List.forall_mem_cons.2 ⟨(lowBits_field kind 0b00#2 offset).trans ((wordAligned_iff offset).mp h),
    List.forall_mem_singleton.2 (kindWidth_field kind 0b00#2 offset)⟩

/-- The encoder gives a well-formed transaction the fixed fields of its row. -/
def Laws.CommandMatchesTable.Statement (i : Instr) : Prop :=
  ∀ cfg, i.wf cfg = true → ∀ f ∈ fixedFields i,
    commandField (encode cfg i).cmd f.1 f.2.1 = f.2.2

namespace Laws.CommandMatchesTable

theorem rdChipId : Statement .rdChipId :=
  fun _ _ => List.forall_mem_singleton.2 (whole_field 0x0000#16)

theorem wrChipId (data : Word) : Statement (.wrChipId data) :=
  fun _ _ => List.forall_mem_singleton.2 (whole_field 0x4000#16)

theorem rdChipControl : Statement .rdChipControl :=
  fun _ _ => List.forall_mem_singleton.2 (whole_field 0x0004#16)

theorem wrChipControl (data : Word) : Statement (.wrChipControl data) :=
  fun _ _ => List.forall_mem_singleton.2 (whole_field 0x4004#16)

theorem rdIntStatus : Statement .rdIntStatus :=
  fun _ _ => List.forall_mem_singleton.2 (whole_field 0x0008#16)

theorem wrIntStatus (data : Word) : Statement (.wrIntStatus data) :=
  fun _ _ => List.forall_mem_singleton.2 (whole_field 0x4008#16)

theorem rdIntEnableS : Statement .rdIntEnableS :=
  fun _ _ => List.forall_mem_singleton.2 (whole_field 0x000C#16)

theorem wrIntEnableS (data : Word) : Statement (.wrIntEnableS data) :=
  fun _ _ => List.forall_mem_singleton.2 (whole_field 0x400C#16)

theorem rdIntStatusC : Statement .rdIntStatusC :=
  fun _ _ => List.forall_mem_singleton.2 (whole_field 0x0108#16)

theorem wrIntStatusC (data : Word) : Statement (.wrIntStatusC data) :=
  fun _ _ => List.forall_mem_singleton.2 (whole_field 0x4108#16)

theorem rdIntEnableC : Statement .rdIntEnableC :=
  fun _ _ => List.forall_mem_singleton.2 (whole_field 0x010C#16)

theorem wrIntEnableC (data : Word) : Statement (.wrIntEnableC data) :=
  fun _ _ => List.forall_mem_singleton.2 (whole_field 0x410C#16)

theorem rdVidCstart : Statement .rdVidCstart :=
  fun _ _ => List.forall_mem_singleton.2 (whole_field 0x0300#16)

theorem wrVidCstart (data : Word) : Statement (.wrVidCstart data) :=
  fun _ _ => List.forall_mem_singleton.2 (whole_field 0x4300#16)

theorem rdVidCsize : Statement .rdVidCsize :=
  fun _ _ => List.forall_mem_singleton.2 (whole_field 0x0304#16)

theorem wrVidCsize (data : Word) : Statement (.wrVidCsize data) :=
  fun _ _ => List.forall_mem_singleton.2 (whole_field 0x4304#16)

theorem rdVidCcnt : Statement .rdVidCcnt :=
  fun _ _ => List.forall_mem_singleton.2 (whole_field 0x0308#16)

theorem wrVidCcnt (data : Word) : Statement (.wrVidCcnt data) :=
  fun _ _ => List.forall_mem_singleton.2 (whole_field 0x4308#16)

theorem rdVidNstart : Statement .rdVidNstart :=
  fun _ _ => List.forall_mem_singleton.2 (whole_field 0x030C#16)

theorem wrVidNstart (data : Word) : Statement (.wrVidNstart data) :=
  fun _ _ => List.forall_mem_singleton.2 (whole_field 0x430C#16)

theorem rdVidNsize : Statement .rdVidNsize :=
  fun _ _ => List.forall_mem_singleton.2 (whole_field 0x0310#16)

theorem wrVidNsize (data : Word) : Statement (.wrVidNsize data) :=
  fun _ _ => List.forall_mem_singleton.2 (whole_field 0x4310#16)

theorem rdVidDmacntl : Statement .rdVidDmacntl :=
  fun _ _ => List.forall_mem_singleton.2 (whole_field 0x0314#16)

theorem wrVidDmacntl (data : Word) : Statement (.wrVidDmacntl data) :=
  fun _ _ => List.forall_mem_singleton.2 (whole_field 0x4314#16)

theorem rdVidFcntl : Statement .rdVidFcntl :=
  fun _ _ => List.forall_mem_singleton.2 (whole_field 0x0318#16)

theorem wrVidFcntl (data : Word) : Statement (.wrVidFcntl data) :=
  fun _ _ => List.forall_mem_singleton.2 (whole_field 0x4318#16)

theorem rdVidBlnkcol : Statement .rdVidBlnkcol :=
  fun _ _ => List.forall_mem_singleton.2 (whole_field 0x031C#16)

theorem wrVidBlnkcol (data : Word) : Statement (.wrVidBlnkcol data) :=
  fun _ _ => List.forall_mem_singleton.2 (whole_field 0x431C#16)

theorem rdVidHstart : Statement .rdVidHstart :=
  fun _ _ => List.forall_mem_singleton.2 (whole_field 0x0320#16)

theorem wrVidHstart (data : Word) : Statement (.wrVidHstart data) :=
  fun _ _ => List.forall_mem_singleton.2 (whole_field 0x4320#16)

theorem rdVidHsize : Statement .rdVidHsize :=
  fun _ _ => List.forall_mem_singleton.2 (whole_field 0x0324#16)

theorem wrVidHsize (data : Word) : Statement (.wrVidHsize data) :=
  fun _ _ => List.forall_mem_singleton.2 (whole_field 0x4324#16)

theorem rdVidVstart : Statement .rdVidVstart :=
  fun _ _ => List.forall_mem_singleton.2 (whole_field 0x0328#16)

theorem wrVidVstart (data : Word) : Statement (.wrVidVstart data) :=
  fun _ _ => List.forall_mem_singleton.2 (whole_field 0x4328#16)

theorem rdVidVsize : Statement .rdVidVsize :=
  fun _ _ => List.forall_mem_singleton.2 (whole_field 0x032C#16)

theorem wrVidVsize (data : Word) : Statement (.wrVidVsize data) :=
  fun _ _ => List.forall_mem_singleton.2 (whole_field 0x432C#16)

theorem rdVidHintline : Statement .rdVidHintline :=
  fun _ _ => List.forall_mem_singleton.2 (whole_field 0x0330#16)

theorem wrVidHintline (data : Word) : Statement (.wrVidHintline data) :=
  fun _ _ => List.forall_mem_singleton.2 (whole_field 0x4330#16)

theorem rdVidCline : Statement .rdVidCline :=
  fun _ _ => List.forall_mem_singleton.2 (whole_field 0x0334#16)

theorem wrVidCline (data : Word) : Statement (.wrVidCline data) :=
  fun _ _ => List.forall_mem_singleton.2 (whole_field 0x4334#16)

theorem rdVidIntstatS : Statement .rdVidIntstatS :=
  fun _ _ => List.forall_mem_singleton.2 (whole_field 0x0338#16)

theorem wrVidIntstatS (data : Word) : Statement (.wrVidIntstatS data) :=
  fun _ _ => List.forall_mem_singleton.2 (whole_field 0x4338#16)

theorem rdVidIntenS : Statement .rdVidIntenS :=
  fun _ _ => List.forall_mem_singleton.2 (whole_field 0x033C#16)

theorem wrVidIntenS (data : Word) : Statement (.wrVidIntenS data) :=
  fun _ _ => List.forall_mem_singleton.2 (whole_field 0x433C#16)

theorem rdVidIntstatC : Statement .rdVidIntstatC :=
  fun _ _ => List.forall_mem_singleton.2 (whole_field 0x0438#16)

theorem wrVidIntstatC (data : Word) : Statement (.wrVidIntstatC data) :=
  fun _ _ => List.forall_mem_singleton.2 (whole_field 0x4438#16)

theorem rdVidIntenC : Statement .rdVidIntenC :=
  fun _ _ => List.forall_mem_singleton.2 (whole_field 0x043C#16)

theorem wrVidIntenC (data : Word) : Statement (.wrVidIntenC data) :=
  fun _ _ => List.forall_mem_singleton.2 (whole_field 0x443C#16)

theorem rdDomStatusS (d : Collab) : Statement (.rdDomStatusS d) :=
  fun cfg _ => List.forall_mem_singleton.2 (kindWidth_field 0b00#2 0b00#2 (domainOffset cfg d .statusSet))

theorem rdDomStatusC (d : Collab) : Statement (.rdDomStatusC d) :=
  fun cfg _ => List.forall_mem_singleton.2 (kindWidth_field 0b00#2 0b00#2 (domainOffset cfg d .statusClear))

theorem rdDomEnableS (d : Collab) : Statement (.rdDomEnableS d) :=
  fun cfg _ => List.forall_mem_singleton.2 (kindWidth_field 0b00#2 0b00#2 (domainOffset cfg d .enableSet))

theorem rdDomEnableC (d : Collab) : Statement (.rdDomEnableC d) :=
  fun cfg _ => List.forall_mem_singleton.2 (kindWidth_field 0b00#2 0b00#2 (domainOffset cfg d .enableClear))

theorem wrDomStatusS (d : Collab) (data : Word) : Statement (.wrDomStatusS d data) :=
  fun cfg _ => List.forall_mem_singleton.2 (kindWidth_field 0b01#2 0b00#2 (domainOffset cfg d .statusSet))

theorem wrDomStatusC (d : Collab) (data : Word) : Statement (.wrDomStatusC d data) :=
  fun cfg _ => List.forall_mem_singleton.2 (kindWidth_field 0b01#2 0b00#2 (domainOffset cfg d .statusClear))

theorem wrDomEnableS (d : Collab) (data : Word) : Statement (.wrDomEnableS d data) :=
  fun cfg _ => List.forall_mem_singleton.2 (kindWidth_field 0b01#2 0b00#2 (domainOffset cfg d .enableSet))

theorem wrDomEnableC (d : Collab) (data : Word) : Statement (.wrDomEnableC d data) :=
  fun cfg _ => List.forall_mem_singleton.2 (kindWidth_field 0b01#2 0b00#2 (domainOffset cfg d .enableClear))

theorem raiseAudio (data : Word) : Statement (.raiseAudio data) :=
  fun _ _ => List.forall_mem_singleton.2 (whole_field 0x8102#16)

theorem lowerAudio (data : Word) : Statement (.lowerAudio data) :=
  fun _ _ => List.forall_mem_singleton.2 (whole_field 0x8202#16)

theorem raiseDevio (data : Word) : Statement (.raiseDevio data) :=
  fun _ _ => List.forall_mem_singleton.2 (whole_field 0x8103#16)

theorem lowerDevio (data : Word) : Statement (.lowerDevio data) :=
  fun _ _ => List.forall_mem_singleton.2 (whole_field 0x8203#16)

theorem raiseRio (data : Word) : Statement (.raiseRio data) :=
  fun _ _ => List.forall_mem_singleton.2 (whole_field 0x8104#16)

theorem lowerRio (data : Word) : Statement (.lowerRio data) :=
  fun _ _ => List.forall_mem_singleton.2 (whole_field 0x8204#16)

theorem raiseTimer (data : Word) : Statement (.raiseTimer data) :=
  fun _ _ => List.forall_mem_singleton.2 (whole_field 0x8105#16)

theorem lowerTimer (data : Word) : Statement (.lowerTimer data) :=
  fun _ _ => List.forall_mem_singleton.2 (whole_field 0x8205#16)

theorem line : Statement .line :=
  fun _ _ => List.forall_mem_singleton.2 (whole_field 0x8000#16)

theorem reset : Statement .reset :=
  fun _ _ => List.forall_mem_singleton.2 (whole_field 0x8300#16)

theorem rdReserved (offset : Offset) : Statement (.rdReserved offset) :=
  fun _ h => reserved_fields 0b00#2 offset (Bool.and_eq_true_iff.mp h).1

theorem wrReserved (offset : Offset) (data : Word) : Statement (.wrReserved offset data) :=
  fun _ h => reserved_fields 0b01#2 offset (Bool.and_eq_true_iff.mp h).1

theorem refusedReservedKind (rest : BitVec 14) : Statement (.refusedReservedKind rest) :=
  fun _ _ => List.forall_mem_singleton.2 (refusedKind_field rest)

theorem refusedNotWordWidthRd (width : BitVec 2) (offset : Offset) : Statement (.refusedNotWordWidthRd width offset) :=
  fun _ _ => List.forall_mem_singleton.2 (kind_field 0b00#2 width offset)

theorem refusedNotWordWidthWr (width : BitVec 2) (offset : Offset) : Statement (.refusedNotWordWidthWr width offset) :=
  fun _ _ => List.forall_mem_singleton.2 (kind_field 0b01#2 width offset)

theorem refusedMisalignedOffsetRd (offset : Offset) : Statement (.refusedMisalignedOffsetRd offset) :=
  fun _ _ => List.forall_mem_singleton.2 (kindWidth_field 0b00#2 0b00#2 offset)

theorem refusedMisalignedOffsetWr (offset : Offset) : Statement (.refusedMisalignedOffsetWr offset) :=
  fun _ _ => List.forall_mem_singleton.2 (kindWidth_field 0b01#2 0b00#2 offset)

theorem refusedBadEvent (zeroHi : BitVec 2) (ev : BitVec 4) (zeroLo : BitVec 5) (dom : BitVec 3) : Statement (.refusedBadEvent zeroHi ev zeroLo dom) :=
  fun _ _ => List.forall_mem_singleton.2 (eventKind_field zeroHi ev zeroLo dom)

theorem refusedBadDomain (ev : BitVec 4) (dom : BitVec 3) : Statement (.refusedBadDomain ev dom) :=
  fun _ _ => List.forall_mem_singleton.2 (eventKind_field 0b00#2 ev 0b00000#5 dom)

end Laws.CommandMatchesTable

end Sys2Proof
end

