-- ==== Sys2Proof/Machine/Transcript.lean ====
section
/-! DEFINITION. The transcript syntax of 30 R94: a transaction written as one line of text, the result
of a read, and the encoding of a line. -/

namespace Sys2Proof

/-- One hexadecimal digit. -/
def hexDigit (n : Nat) : Char :=
  if n < 10 then Char.ofNat (48 + n) else Char.ofNat (55 + n)

/-- The `k` low hexadecimal digits of a number, the most significant first. -/
def hexDigits : Nat → Nat → List Char
  | 0, _ => []
  | k + 1, n => hexDigit (n / 16 ^ k % 16) :: hexDigits k n

/-- `0x` and `k` hexadecimal digits. -/
def hexText (k n : Nat) : String := "0x" ++ String.ofList (hexDigits k n)

/-- A register read by its name. -/
def rdText (reg : String) : String := "RD " ++ reg

/-- A register write by its name. -/
def wrText (reg : String) (data : Word) : String := "WR " ++ reg ++ ", " ++ hexText 8 data.toNat

/-- The name of a collaborator domain (00 R12). -/
def Collab.text : Collab → String
  | .audio => "AUDIO"
  | .devio => "DEVIO"
  | .rio => "RIO"
  | .timer => "TIMER"

/-- RAISE or LOWER of a domain. -/
def eventText (name : String) (d : Collab) (data : Word) : String :=
  name ++ " " ++ d.text ++ ", " ++ hexText 8 data.toNat

/-- A register without a name, by its offset. -/
def offsetText (offset : Offset) : String := hexText 3 offset.toNat

/-- The line of a transaction; a refused command has none. -/
def transcript (cfg : Config) : Instr → Option String
  | .rdChipId => some (rdText "CHIP_ID")
  | .wrChipId data => some (wrText "CHIP_ID" data)
  | .rdChipControl => some (rdText "CHIP_CONTROL")
  | .wrChipControl data => some (wrText "CHIP_CONTROL" data)
  | .rdIntStatus => some (rdText "INT_STATUS")
  | .wrIntStatus data => some (wrText "INT_STATUS" data)
  | .rdIntEnableS => some (rdText "INT_ENABLE_S")
  | .wrIntEnableS data => some (wrText "INT_ENABLE_S" data)
  | .rdIntStatusC => some (rdText "INT_STATUS_C")
  | .wrIntStatusC data => some (wrText "INT_STATUS_C" data)
  | .rdIntEnableC => some (rdText "INT_ENABLE_C")
  | .wrIntEnableC data => some (wrText "INT_ENABLE_C" data)
  | .rdVidCstart => some (rdText "VID_CSTART")
  | .wrVidCstart data => some (wrText "VID_CSTART" data)
  | .rdVidCsize => some (rdText "VID_CSIZE")
  | .wrVidCsize data => some (wrText "VID_CSIZE" data)
  | .rdVidCcnt => some (rdText "VID_CCNT")
  | .wrVidCcnt data => some (wrText "VID_CCNT" data)
  | .rdVidNstart => some (rdText "VID_NSTART")
  | .wrVidNstart data => some (wrText "VID_NSTART" data)
  | .rdVidNsize => some (rdText "VID_NSIZE")
  | .wrVidNsize data => some (wrText "VID_NSIZE" data)
  | .rdVidDmacntl => some (rdText "VID_DMACNTL")
  | .wrVidDmacntl data => some (wrText "VID_DMACNTL" data)
  | .rdVidFcntl => some (rdText "VID_FCNTL")
  | .wrVidFcntl data => some (wrText "VID_FCNTL" data)
  | .rdVidBlnkcol => some (rdText "VID_BLNKCOL")
  | .wrVidBlnkcol data => some (wrText "VID_BLNKCOL" data)
  | .rdVidHstart => some (rdText "VID_HSTART")
  | .wrVidHstart data => some (wrText "VID_HSTART" data)
  | .rdVidHsize => some (rdText "VID_HSIZE")
  | .wrVidHsize data => some (wrText "VID_HSIZE" data)
  | .rdVidVstart => some (rdText "VID_VSTART")
  | .wrVidVstart data => some (wrText "VID_VSTART" data)
  | .rdVidVsize => some (rdText "VID_VSIZE")
  | .wrVidVsize data => some (wrText "VID_VSIZE" data)
  | .rdVidHintline => some (rdText "VID_HINTLINE")
  | .wrVidHintline data => some (wrText "VID_HINTLINE" data)
  | .rdVidCline => some (rdText "VID_CLINE")
  | .wrVidCline data => some (wrText "VID_CLINE" data)
  | .rdVidIntstatS => some (rdText "VID_INTSTAT_S")
  | .wrVidIntstatS data => some (wrText "VID_INTSTAT_S" data)
  | .rdVidIntenS => some (rdText "VID_INTEN_S")
  | .wrVidIntenS data => some (wrText "VID_INTEN_S" data)
  | .rdVidIntstatC => some (rdText "VID_INTSTAT_C")
  | .wrVidIntstatC data => some (wrText "VID_INTSTAT_C" data)
  | .rdVidIntenC => some (rdText "VID_INTEN_C")
  | .wrVidIntenC data => some (wrText "VID_INTEN_C" data)
  | .rdDomStatusS d => some (rdText (offsetText (domainOffset cfg d .statusSet)))
  | .rdDomStatusC d => some (rdText (offsetText (domainOffset cfg d .statusClear)))
  | .rdDomEnableS d => some (rdText (offsetText (domainOffset cfg d .enableSet)))
  | .rdDomEnableC d => some (rdText (offsetText (domainOffset cfg d .enableClear)))
  | .wrDomStatusS d data => some (wrText (offsetText (domainOffset cfg d .statusSet)) data)
  | .wrDomStatusC d data => some (wrText (offsetText (domainOffset cfg d .statusClear)) data)
  | .wrDomEnableS d data => some (wrText (offsetText (domainOffset cfg d .enableSet)) data)
  | .wrDomEnableC d data => some (wrText (offsetText (domainOffset cfg d .enableClear)) data)
  | .raiseAudio data => some (eventText "RAISE" .audio data)
  | .lowerAudio data => some (eventText "LOWER" .audio data)
  | .raiseDevio data => some (eventText "RAISE" .devio data)
  | .lowerDevio data => some (eventText "LOWER" .devio data)
  | .raiseRio data => some (eventText "RAISE" .rio data)
  | .lowerRio data => some (eventText "LOWER" .rio data)
  | .raiseTimer data => some (eventText "RAISE" .timer data)
  | .lowerTimer data => some (eventText "LOWER" .timer data)
  | .line => some "LINE"
  | .reset => some "RESET"
  | .rdReserved offset => some (rdText (offsetText offset))
  | .wrReserved offset data => some (wrText (offsetText offset) data)
  | .refusedReservedKind _ => none
  | .refusedNotWordWidthRd _ _ => none
  | .refusedNotWordWidthWr _ _ => none
  | .refusedMisalignedOffsetRd _ => none
  | .refusedMisalignedOffsetWr _ => none
  | .refusedBadEvent _ _ _ _ => none
  | .refusedBadDomain _ _ => none

/-- The result written after a read. -/
def resultText (v : Word) : String := "-> " ++ hexText 8 v.toNat

/-- `DATA` is present in a command: WR, and RAISE and LOWER (30 R96). -/
def hasData (cmd : BitVec 16) : Bool :=
  cmd.extractLsb' 14 2 == 0b01#2
    || (cmd.extractLsb' 14 2 == 0b10#2
      && (cmd.extractLsb' 8 4 == 0b0001#4 || cmd.extractLsb' 8 4 == 0b0010#4))

/-- The encoding of a line: `CMD` in hexadecimal, then `DATA` where present. -/
def encodingText (t : Transaction) : String :=
  hexText 4 t.cmd.toNat ++ (if hasData t.cmd then " " ++ hexText 8 t.data.toNat else "")

end Sys2Proof
end

