-- ==== Sys2Proof/Tests/Slice0.lean ====
section
/-! SUPPORT. The model's own tests. Expected values are those of 95_test_vectors.md and of the examples
in 30, 40, 41, 42 and 70, named beside each test, or worked out by hand from the rule named. The theorems
named `smoke_` show that each check of WellFormed refuses an ill-formed term; those named `witness_`
show a concrete state and operands that meet every premise of the statement they are named after. -/

open Sys2Proof Sys2Proof.Machine

namespace Sys2Proof.Tests

/-! ## Helpers -/

/-- The next state of a transaction. -/
def after (i : Instr) (s : State) : State :=
  match exec i s with
  | .next t => t
  | .fault _ => s
  | .refused _ => s

/-- The value the last read returned. -/
def result (s : State) : Option Word :=
  match s.output.getLast? with
  | some (.readResult v) => some v
  | some (.frameDone _) => none
  | none => none

/-- The decoder under the configuration of reset. -/
def d (cmd : BitVec 16) (data : Word) : Instr := decode Config.default ⟨cmd, data⟩

/-- A screen of 4 x 2 pixels in 4 lines, small enough to run a line step in a proof. -/
def tiny : Config :=
  { Config.default with screenWidth := 4, screenHeight := 2, totalLines := 4, hAlign := 2, vAlign := 1 }

/-- The configuration is admissible. -/
def admissible (c : Config) : Bool := decide c.Wf

/-- The small machine at power-on. -/
def base : State := State.powerOn tiny

/-- The small machine with the whole screen fed from a buffer of exactly one frame at 0x1000. -/
def fed : State :=
  { base with
    mem := [(0x1000, 0xEB#8), (0x1001, 0x80#8), (0x1002, 0x10#8), (0x1003, 0x80#8)]
    fcntl := 1#32, dmacntl := 1#32, cvalid := true
    nstart := 0x1000#32, nsize := 16#32, cstart := 0x1000#32, csize := 16#32, cursor := 0x1000#32
    hsizeRaw := 4#32, vsizeRaw := 2#32 }

/-- A state with a value of its own in every register that can be read. -/
def marked : State :=
  { State.powerOn Config.default with
    chipControl := 0xA5A5A5A5#32, genable := 0x80000001#32
    dstatus := ⟨0xC#32, 0x30#32, 0x1#32, 0x2#32, 0x4#32⟩
    denable := ⟨0x8#32, 0x10#32, 0x3#32, 0x6#32, 0xC#32⟩
    cstart := 0x1000#32, csize := 0x1001#32, cursor := 0x1002#32, nstart := 0x1003#32
    nsize := 0x1004#32, dmacntl := 0xFFFFFFF8#32, fcntl := 0x1006#32, blnkcol := 0xFF108080#32
    hstartRaw := 13#32, hsizeRaw := 7#32, vstartRaw := 0xFFFFFFFF#32, vsizeRaw := 1000#32
    hintline := 100#32, line := 3 }

/-! ## Well-formedness: one refused term for each check -/

theorem smoke_default_admissible : Config.default.Wf := by decide

theorem smoke_screen :
    [ admissible { tiny with screenWidth := 0 }, admissible { tiny with screenWidth := 3 }
    , admissible { tiny with screenHeight := 0 }, admissible { tiny with totalLines := 1 }
    , admissible { tiny with totalLines := 4294967297 } ] = List.replicate 5 false := by decide

theorem smoke_align :
    [admissible { tiny with hAlign := 6 }, admissible { tiny with vAlign := 0 }] = [false, false] := by
  decide

theorem smoke_bits :
    [ admissible { tiny with gbit := ⟨0, 1, 2, 3, 3⟩ }, admissible { tiny with vbit := ⟨2, 2, 4, 5⟩ } ]
      = [false, false] := by decide

/-- Misaligned, past the window, on a fixed row, on another domain's row, a clear on its own set. -/
theorem smoke_places :
    ([ ⟨0x182#12, 0x184#12⟩, ⟨0xF00#12, 0x184#12⟩, ⟨0x338#12, 0x184#12⟩, ⟨0x180#12, 0x194#12⟩
     , ⟨0x180#12, 0x280#12⟩ ] : List DomainRegs).map
        (fun r => admissible { tiny with domainRegs := { DomainPlaces.default with audio := some r } })
      = List.replicate 5 false := by decide

theorem smoke_divisor :
    admissible { tiny with csc := { CscConstants.default with yRange := 0 } } = false := by decide

/-- An absent domain; a mapped or misaligned reserved offset; a refusal of something admitted. -/
theorem smoke_transactions :
    [ Instr.wf { tiny with domainRegs := ⟨none, none, none, none⟩ } (.rdDomStatusS .audio)
    , Instr.wf tiny (.rdReserved 0x300#12), Instr.wf tiny (.wrReserved 0x341#12 0#32)
    , Instr.wf tiny (.refusedNotWordWidthRd 0b00#2 0x000#12)
    , Instr.wf tiny (.refusedNotWordWidthWr 0b00#2 0x000#12)
    , Instr.wf tiny (.refusedMisalignedOffsetRd 0x004#12)
    , Instr.wf tiny (.refusedMisalignedOffsetWr 0x004#12)
    , Instr.wf tiny (.refusedBadEvent 0b00#2 0b0011#4 0b00000#5 0b000#3)
    , Instr.wf tiny (.refusedBadDomain 0b0001#4 0b010#3)
    , Instr.wf tiny (.refusedBadDomain 0b0100#4 0b000#3) ] = List.replicate 10 false := by decide

/-! ## Decoding, from words written out by 30 R81, R82, R84, R85, R87 and 95 section 5 -/

theorem test_decode_bus_unit :
    [ d 0x0000#16 0#32, d 0x4000#16 7#32, d 0x0004#16 0#32, d 0x4004#16 0xA5A5A5A5#32
    , d 0x0008#16 0#32, d 0x4008#16 0xFFFFFFFF#32, d 0x000C#16 0#32, d 0x400C#16 0x80000001#32
    , d 0x0108#16 0#32, d 0x4108#16 1#32, d 0x010C#16 0#32, d 0x410C#16 3#32 ]
      = [ .rdChipId, .wrChipId 7#32, .rdChipControl, .wrChipControl 0xA5A5A5A5#32
        , .rdIntStatus, .wrIntStatus 0xFFFFFFFF#32, .rdIntEnableS, .wrIntEnableS 0x80000001#32
        , .rdIntStatusC, .wrIntStatusC 1#32, .rdIntEnableC, .wrIntEnableC 3#32 ] := by decide

theorem test_decode_video_reads :
    [ d 0x0300#16 0#32, d 0x0304#16 0#32, d 0x0308#16 0#32, d 0x030C#16 0#32, d 0x0310#16 0#32
    , d 0x0314#16 0#32, d 0x0318#16 0#32, d 0x031C#16 0#32, d 0x0320#16 0#32, d 0x0324#16 0#32
    , d 0x0328#16 0#32, d 0x032C#16 0#32, d 0x0330#16 0#32, d 0x0334#16 0#32, d 0x0338#16 0#32
    , d 0x033C#16 0#32, d 0x0438#16 0#32, d 0x043C#16 0#32 ]
      = [ .rdVidCstart, .rdVidCsize, .rdVidCcnt, .rdVidNstart, .rdVidNsize, .rdVidDmacntl, .rdVidFcntl
        , .rdVidBlnkcol, .rdVidHstart, .rdVidHsize, .rdVidVstart, .rdVidVsize, .rdVidHintline
        , .rdVidCline, .rdVidIntstatS, .rdVidIntenS, .rdVidIntstatC, .rdVidIntenC ] := by decide

theorem test_decode_video_writes :
    [ d 0x4300#16 1#32, d 0x4304#16 2#32, d 0x4308#16 3#32, d 0x430C#16 4#32, d 0x4310#16 5#32
    , d 0x4314#16 6#32, d 0x4318#16 7#32, d 0x431C#16 8#32, d 0x4320#16 9#32, d 0x4324#16 10#32
    , d 0x4328#16 11#32, d 0x432C#16 12#32, d 0x4330#16 13#32, d 0x4334#16 14#32, d 0x4338#16 15#32
    , d 0x433C#16 16#32, d 0x4438#16 17#32, d 0x443C#16 18#32 ]
      = [ .wrVidCstart 1#32, .wrVidCsize 2#32, .wrVidCcnt 3#32, .wrVidNstart 4#32, .wrVidNsize 5#32
        , .wrVidDmacntl 6#32, .wrVidFcntl 7#32, .wrVidBlnkcol 8#32, .wrVidHstart 9#32
        , .wrVidHsize 10#32, .wrVidVstart 11#32, .wrVidVsize 12#32, .wrVidHintline 13#32
        , .wrVidCline 14#32, .wrVidIntstatS 15#32, .wrVidIntenS 16#32, .wrVidIntstatC 17#32
        , .wrVidIntenC 18#32 ] := by decide

/-- AUDIO at the offsets of W1, TIMER at those of P6. -/
theorem test_decode_domains :
    [ d 0x0180#16 0#32, d 0x0280#16 0#32, d 0x0184#16 0#32, d 0x0284#16 0#32
    , d 0x4140#16 1#32, d 0x4240#16 2#32, d 0x4144#16 3#32, d 0x4244#16 4#32 ]
      = [ .rdDomStatusS .audio, .rdDomStatusC .audio, .rdDomEnableS .audio, .rdDomEnableC .audio
        , .wrDomStatusS .timer 1#32, .wrDomStatusC .timer 2#32, .wrDomEnableS .timer 3#32
        , .wrDomEnableC .timer 4#32 ] := by decide

theorem test_decode_events :
    [ d 0x8102#16 1#32, d 0x8202#16 2#32, d 0x8103#16 3#32, d 0x8203#16 4#32, d 0x8104#16 5#32
    , d 0x8204#16 6#32, d 0x8105#16 7#32, d 0x8205#16 8#32, d 0x8000#16 0#32, d 0x8300#16 0#32 ]
      = [ .raiseAudio 1#32, .lowerAudio 2#32, .raiseDevio 3#32, .lowerDevio 4#32, .raiseRio 5#32
        , .lowerRio 6#32, .raiseTimer 7#32, .lowerTimer 8#32, .line, .reset ] := by decide

/-- V-INT-11 and the table of V-ENC. -/
theorem test_decode_reserved_and_refused :
    [ d 0x0340#16 0#32, d 0x4340#16 5#32, d 0x0FFC#16 0#32, d 0x0010#16 0#32
    , d 0xC000#16 0#32, d 0x1000#16 0#32, d 0x3008#16 0#32, d 0x6008#16 0#32, d 0x0002#16 0#32
    , d 0x4101#16 0#32, d 0x8101#16 0#32, d 0x8106#16 0#32, d 0x8001#16 0#32, d 0x8400#16 0#32
    , d 0x8308#16 0#32, d 0x9000#16 0#32, d 0x8F00#16 0#32 ]
      = [ .rdReserved 0x340#12, .wrReserved 0x340#12 5#32, .rdReserved 0xFFC#12, .rdReserved 0x010#12
        , .refusedReservedKind 0#14, .refusedNotWordWidthRd 0b01#2 0x000#12
        , .refusedNotWordWidthRd 0b11#2 0x008#12, .refusedNotWordWidthWr 0b10#2 0x008#12
        , .refusedMisalignedOffsetRd 0x002#12, .refusedMisalignedOffsetWr 0x101#12
        , .refusedBadDomain 0b0001#4 0b001#3, .refusedBadDomain 0b0001#4 0b110#3
        , .refusedBadDomain 0b0000#4 0b001#3, .refusedBadEvent 0b00#2 0b0100#4 0b00000#5 0b000#3
        , .refusedBadEvent 0b00#2 0b0011#4 0b00001#5 0b000#3
        , .refusedBadEvent 0b01#2 0b0000#4 0b00000#5 0b000#3
        , .refusedBadEvent 0b00#2 0b1111#4 0b00000#5 0b000#3 ] := by decide

/-- The example of 30 R94, as the host numbers its bits and as text. -/
theorem test_table_word :
    decodeTableWord 48 0x00000064_4330 = some (.wrVidHintline 100#32)
      ∧ decodeTableWord 16 0x8000 = some .line := by decide

theorem test_transcript :
    transcript Config.default (.wrVidHintline 100#32) = some "WR VID_HINTLINE, 0x00000064"
      ∧ encodingText (encode Config.default (.wrVidHintline 100#32)) = "0x4330 0x00000064" := by decide

/-! ## Results of reads -/

/-- 40 R104 to R114: INT_STATUS shows VIDEO pending under its enable; GBIT of AUDIO is not enabled. -/
theorem test_bus_unit_reads :
    [Instr.rdChipId, .rdChipControl, .rdIntStatus, .rdIntEnableS, .rdIntStatusC, .rdIntEnableC].map
        (fun i => result (after i marked))
      = [ some 0x12345678#32, some 0xA5A5A5A5#32, some 1#32, some 0x80000001#32, some 0#32
        , some 0x80000001#32 ] := by decide

/-- 41 R141 to R167, V-VID-6 and V-VID-7: the stored values, the window raw. -/
theorem test_video_reads :
    [ Instr.rdVidCstart, .rdVidCsize, .rdVidCcnt, .rdVidNstart, .rdVidNsize, .rdVidDmacntl, .rdVidFcntl
    , .rdVidBlnkcol, .rdVidHstart, .rdVidHsize, .rdVidVstart, .rdVidVsize, .rdVidHintline
    , .rdVidCline ].map (fun i => result (after i marked))
      = [ some 0x1000#32, some 0x1001#32, some 0x1002#32, some 0x1003#32, some 0x1004#32
        , some 0xFFFFFFF8#32, some 0x1006#32, some 0xFF108080#32, some 13#32, some 7#32
        , some 0xFFFFFFFF#32, some 1000#32, some 100#32, some 3#32 ] := by decide

/-- 40 R116 to R122: the example of R116 for VIDEO, and each collaborator's own pair. -/
theorem test_domain_reads :
    [ Instr.rdVidIntstatS, .rdVidIntenS, .rdVidIntstatC, .rdVidIntenC, .rdDomStatusS .audio
    , .rdDomStatusC .audio, .rdDomEnableS .audio, .rdDomEnableC .audio, .rdDomStatusS .timer
    , .rdDomEnableS .rio, .rdDomStatusS .devio ].map (fun i => result (after i marked))
      = [ some 8#32, some 8#32, some 0#32, some 8#32, some 0x10#32, some 0#32, some 0x10#32
        , some 0x10#32, some 4#32, some 6#32, some 1#32 ] := by decide

/-! ## Writes and events -/

/-- 40 R107, R111, R113, R115 (V-INT-5 and the examples). -/
theorem test_bus_unit_writes :
    (after (.wrChipControl 0xFFFFFFFF#32) base).chipControl = 0xFFFFFFFF#32
      ∧ (after (.wrIntEnableS 2#32) marked).genable = 0x80000003#32
      ∧ (after (.wrIntEnableC 3#32) { base with genable := 0x1F#32 }).genable = 0x1C#32
      ∧ after (.wrIntStatusC 1#32) marked = marked := by decide

/-- V-INT-1, V-INT-3, V-VID-5. -/
theorem test_read_only_writes :
    (after (.wrChipId 0#32) base).log = [.readOnlyWrite 0x000#12 0#32]
      ∧ (after (.wrIntStatus 0xFFFFFFFF#32) base).log = [.readOnlyWrite 0x008#12 0xFFFFFFFF#32]
      ∧ (after (.wrVidCstart 0x2000#32) base).log = [.readOnlyWrite 0x300#12 0x2000#32]
      ∧ (after (.wrVidCsize 5#32) base).log = [.readOnlyWrite 0x304#12 5#32]
      ∧ (after (.wrVidCcnt 0#32) base).log = [.readOnlyWrite 0x308#12 0#32]
      ∧ (after (.wrVidCline 3#32) base).log = [.readOnlyWrite 0x334#12 3#32] := by decide

/-- V-VID-6 and V-VID-7. -/
theorem test_video_control_writes :
    (after (.wrVidFcntl 0xFFFFFFFF#32) base).fcntl = 0xFFFFFFFF#32
      ∧ (after (.wrVidBlnkcol 0xFF108080#32) base).blnkcol = 0xFF108080#32
      ∧ (after (.wrVidHstart 13#32) base).hstartRaw = 13#32
      ∧ (after (.wrVidHsize 7#32) base).hsizeRaw = 7#32
      ∧ (after (.wrVidVstart 0xFFFFFFFF#32) base).vstartRaw = 0xFFFFFFFF#32
      ∧ (after (.wrVidVsize 1000#32) base).vsizeRaw = 1000#32
      ∧ (after (.wrVidHintline 100#32) base).hintline = 100#32 := by decide

/-- V-NVF: with NVF the new start is current at once with the old size; without it nothing is. -/
theorem test_descriptor_writes :
    (let t := after (.wrVidNstart 0x3000#32) { fed with dmacntl := 4#32, nsize := 0x40#32 }
     (t.cstart, t.csize, t.cursor) = (0x3000#32, 0x40#32, 0x3000#32))
      ∧ (let t := after (.wrVidNsize 0x80#32) { fed with dmacntl := 4#32, nstart := 0x3000#32 }
         (t.cstart, t.csize, t.cvalid) = (0x3000#32, 0x80#32, true))
      ∧ (let t := after (.wrVidNstart 0x5000#32) fed
         (t.nstart, t.cstart, t.cursor) = (0x5000#32, 0x1000#32, 0x1000#32)) := by decide

/-- V-VID-3 and V-VID-7. -/
theorem test_dmacntl_writes :
    (let t := after (.wrVidDmacntl 5#32) { base with nstart := 0x1000#32, nsize := 0x1000#32 }
     (t.cstart, t.csize, t.cursor, t.cvalid) = (0x1000#32, 0x1000#32, 0x1000#32, true))
      ∧ (after (.wrVidDmacntl 0xFFFFFFF8#32) base).cvalid = false := by decide

/-- V-IDX: a line of 16 pixels. -/
theorem test_cursor_conventions :
    [CursorInit.start, .idx0, .idx1].map (fun c => cursorInit c 0x1000#32 0x80#32 16)
      = [0x1000#32, 0x1060#32, 0x1040#32] := by decide

/-- The examples of 40 R117, R119, R121 and R123, and the same operations on a collaborator's pair. -/
theorem test_pair_writes :
    (after (.wrVidIntstatS 8#32) marked).dstatus.video = 0xC#32
      ∧ (after (.wrVidIntstatC 4#32) marked).dstatus.video = 8#32
      ∧ (after (.wrVidIntenS 4#32) marked).denable.video = 0xC#32
      ∧ (after (.wrVidIntenC 0x30#32) { base with denable := DomainWords.all 0x3C#32 }).denable.video
          = 0xC#32
      ∧ (after (.wrDomStatusS .audio 1#32) marked).dstatus = { marked.dstatus with audio := 0x31#32 }
      ∧ (after (.wrDomStatusC .rio 2#32) marked).dstatus = { marked.dstatus with rio := 0#32 }
      ∧ (after (.wrDomEnableS .devio 4#32) marked).denable = { marked.denable with devio := 7#32 }
      ∧ (after (.wrDomEnableC .timer 8#32) marked).denable = { marked.denable with timer := 4#32 } := by
  decide

/-- 40 R124 and R125: each event reaches its own domain. -/
theorem test_events :
    [ (after (.raiseAudio 1#32) marked).dstatus.audio, (after (.lowerAudio 0x10#32) marked).dstatus.audio
    , (after (.raiseDevio 2#32) marked).dstatus.devio, (after (.lowerDevio 1#32) marked).dstatus.devio
    , (after (.raiseRio 1#32) marked).dstatus.rio, (after (.lowerRio 2#32) marked).dstatus.rio
    , (after (.raiseTimer 1#32) marked).dstatus.timer, (after (.lowerTimer 4#32) marked).dstatus.timer ]
      = [0x31#32, 0x20#32, 3#32, 0#32, 3#32, 0#32, 5#32, 0#32] := by decide

/-- The example of 40 R124: RAISE TIMER with TIMER enabled asserts the line. -/
theorem test_raise_drives_line :
    irq (after (.raiseTimer 1#32)
      { base with denable := ⟨0#32, 0#32, 0#32, 0#32, 1#32⟩, genable := 0x10#32 }) = true := by decide

/-- V-INT-11: logged, read 0, otherwise ignored. -/
theorem test_reserved :
    (result (after (.rdReserved 0x340#12) marked), (after (.rdReserved 0x340#12) marked).log)
        = (some 0#32, [.reservedRead 0x340#12])
      ∧ (after (.wrReserved 0x344#12 5#32) base).log = [.reservedWrite 0x344#12 5#32] := by decide

/-- 60 R243: every refusal sets `refused` and nothing else. -/
theorem test_refused :
    [ after (.refusedReservedKind 0#14) base, after (.refusedNotWordWidthRd 1#2 0#12) base
    , after (.refusedNotWordWidthWr 1#2 0#12) base, after (.refusedMisalignedOffsetRd 2#12) base
    , after (.refusedMisalignedOffsetWr 1#12) base, after (.refusedBadEvent 0#2 4#4 0#5 0#3) base
    , after (.refusedBadDomain 1#4 1#3) base ]
      = List.replicate 7 { base with refused := true } := by decide

/-- 70 R270: the reset values, a recorded fault kept (V-LINE-18). -/
theorem test_reset :
    after .reset { fed with faults := [.cursorOverrun 0x1004#32], line := 2, genable := 1#32 }
      = { base with mem := fed.mem, faults := [.cursorOverrun 0x1004#32] } := by decide

/-! ## The line step, the converter and the window -/

/-- Rows 1, 2, 3, 4, 8, 14 and 20 of W-CSC. -/
theorem test_csc :
    (let k := CscConstants.default
     [ csc k 16#8 128#8 128#8, csc k 235#8 128#8 128#8, csc k 0#8 0#8 0#8, csc k 255#8 255#8 255#8
     , csc k 81#8 90#8 240#8, csc k 128#8 0#8 255#8, csc k 128#8 127#8 129#8 ])
      = [ ⟨0#8, 0#8, 0#8⟩, ⟨255#8, 255#8, 255#8⟩, ⟨0#8, 118#8, 0#8⟩, ⟨255#8, 144#8, 255#8⟩
        , ⟨233#8, 9#8, 8#8⟩, ⟨255#8, 84#8, 0#8⟩, ⟨132#8, 131#8, 129#8⟩ ] := by decide

/-- Rows 3, 7, 8, 9, 10, 12, 15 and 19 of W-VAL. -/
theorem test_clamp :
    [ clamp1 13 7 16 8, clamp1 0xFFFFFFFF 4 16 8, clamp1 0 0xFFFFFFFF 16 8, clamp1 100 0 16 8
    , clamp1 3 5 4 8, clamp1 9 2 10 1, clamp1 40 480 420 8, clamp1 1 1 1 1 ]
      = [(8, 6), (8, 4), (0, 16), (16, 0), (0, 4), (8, 2), (0, 420), (1, 0)] := by decide

/-- V-VID-6: the effective window of raw values that do not fit. -/
theorem test_window : window marked = ⟨8, 6, 0, 4⟩ := by decide

/-- A fetched row: the first pair shows the memory word 0xEB801080, the second the zero word; the cursor
has moved by 8, and line 0 has matched hintline 0 (42 R193, R196, R192; W-CSC rows 1, 2 and 3). -/
theorem test_line_fetches :
    (let t := after .line fed
     (t.fb[0]?, t.cursor, t.line, t.dstatus.video, t.faults))
      = (some [ some ⟨255#8, 255#8, 255#8⟩, some ⟨0#8, 0#8, 0#8⟩, some ⟨0#8, 118#8, 0#8⟩
              , some ⟨0#8, 118#8, 0#8⟩ ], 0x1008#32, 1, 8#32, []) := by decide

/-- V-LINE-4: with one line per frame a step is a whole frame. -/
theorem test_line_frame_end :
    (let t := after .line (State.powerOn
        { tiny with screenWidth := 2, screenHeight := 1, totalLines := 1 })
     (t.dstatus.video, t.field, t.line, t.output))
      = (0x2C#32, .odd, 0, [.frameDone [[some ⟨0#8, 118#8, 0#8⟩, some ⟨0#8, 118#8, 0#8⟩]]]) := by
  decide

/-- V-LINE-7 and V-LINE-8: alignment is tested first, and a faulted step changes nothing else. -/
theorem test_line_faults :
    after .line { fed with cursor := 0x1002#32, csize := 0#32 }
        = { fed with cursor := 0x1002#32, csize := 0#32, faults := [.misalignedFetch 0x1002#32] }
      ∧ after .line { fed with csize := 0#32 }
        = { fed with csize := 0#32, faults := [.cursorOverrun 0x1000#32] } := by decide

/-- 42 R210 and 20 R63: big-endian the byte at the address is y1; little-endian the byte three above. -/
theorem test_mem_read :
    memRead .big fed.mem 0x1000#32 = 0xEB801080#32
      ∧ memRead .little fed.mem 0x1000#32 = 0x801080EB#32 := by decide

/-- A store of the value an unlisted byte reads as takes its cell out (log entry 8). -/
theorem test_host_store :
    (hostStore 0x1001#32 0#8 fed).mem = [(0x1000, 0xEB#8), (0x1002, 0x10#8), (0x1003, 0x80#8)]
      ∧ (hostStore 0xFFF#32 7#8 { base with mem := [(0x1000, 1#8)] }).mem
        = [(0xFFF, 7#8), (0x1000, 1#8)] := by decide

/-- The host's reading: the word placed where the step takes it is run as the first transaction. -/
theorem test_with_fetch_word :
    step (State.reset.withFetchWord 48 0x00000064_4330)
      = .next { State.reset with hintline := 100#32 } := rfl

/-! ## Witnesses: the premises of each statement hold together somewhere -/

theorem witness_GlobalEnableSetsAndClearsAndDrivesLine :
    pending marked .video = true ∧ bit 1#32 (marked.cfg.gbit.at .video) = true := by decide

theorem witness_BusUnitReadsAnswer :
    bit marked.genable 1 = false ∧ ∀ e, marked.cfg.gbit.at e ≠ 31 :=
  ⟨by decide, fun e => by cases e <;> decide⟩

theorem witness_DescriptorWritesPromoteUnderNvf :
    bit base.dmacntl 2 = false ∧ bit ({ base with dmacntl := 4#32 } : State).dmacntl 2 = true
      ∧ bit 3#32 2 = false ∧ bit 4#32 2 = true := by decide

theorem witness_OnlyPromotionChangesCurrentDescriptor :
    exec (.wrVidNstart 4#32) base = .next (after (.wrVidNstart 4#32) base)
      ∧ Instr.wrVidNstart 4#32 ≠ .line ∧ Instr.wrVidNstart 4#32 ≠ .reset := ⟨rfl, by decide, by decide⟩

/-- Every domain of the configuration of reset, and the highest offsets a domain can have. -/
theorem witness_CollaboratorPairsDecodeAtTheirOffsets :
    Config.default.Wf ∧ Config.default.domainRegs.at .audio = some ⟨0x180#12, 0x184#12⟩
      ∧ Config.default.domainRegs.at .timer = some ⟨0x140#12, 0x144#12⟩
      ∧ (let top := { tiny with domainRegs := ⟨some ⟨0xEF8#12, 0xEFC#12⟩, none, none, none⟩ }
         Config.Wf top ∧ top.domainRegs.at .audio = some ⟨0xEF8#12, 0xEFC#12⟩) := by decide

/-- The first and the last reserved offsets under the configuration of reset. -/
theorem witness_ReservedOffsetsReadZeroAndLog :
    ∀ offset ∈ [0x010#12, 0x340#12, 0x440#12, 0xFFC#12], offset.toNat % 4 = 0
      ∧ ∀ slot, (offset, slot) ∉ registerMap ++ domainMap Config.default.domainRegs := by
  have keys : ∀ offset ∈ [0x010#12, 0x340#12, 0x440#12, 0xFFC#12], offset.toNat % 4 = 0
      ∧ offset ∉ (registerMap ++ domainMap Config.default.domainRegs).map Prod.fst := by decide
  exact fun offset h =>
    ⟨(keys offset h).1, fun slot hm => (keys offset h).2 (List.mem_map.2 ⟨_, hm, rfl⟩)⟩

theorem witness_PowerOnLeavesResetValues : marked.faults = [] ∧ marked.refused = false := by decide

/-- A status set with every enable 0, and with the domain and its bit of the global enable set. -/
theorem witness_MaskingAppliesOnlyAtReadAndLine :
    exec (.wrVidIntstatS 4#32) base = .next (after (.wrVidIntstatS 4#32) base)
      ∧ exec (.wrVidIntstatS 4#32) { base with denable := marked.denable, genable := marked.genable }
        = .next (after (.wrVidIntstatS 4#32)
          { base with denable := marked.denable, genable := marked.genable }) := ⟨rfl, rfl⟩

theorem witness_GlobalStatusAggregatesPendingDomains :
    marked.cfg.BitsOk ∧ ∀ e : Domain, marked.cfg.gbit.at e ≠ 5 :=
  ⟨by decide, fun e => by cases e <;> decide⟩

/-- The acknowledge of VIDEO's visible bit 3, and of AUDIO's bit 4. -/
theorem witness_AcknowledgeDeassertsTheLine :
    (marked.dstatus.video &&& marked.denable.video) &&& ~~~8#32 = 0#32
      ∧ (marked.dstatus.at (Collab.domain .audio) &&& marked.denable.at (Collab.domain .audio))
          &&& ~~~0x10#32 = 0#32 := by decide

theorem witness_LatchedEventsSurfaceWhenEnabled : bit marked.denable.video 31 = false := by decide

theorem witness_ReadsChangeNothingButTheLog :
    Instr.rdChipId.isRead = true ∧ (∀ offset, Instr.rdChipId ≠ .rdReserved offset)
      ∧ (Instr.rdReserved 0x340#12).isRead = true ∧ exec .line fed = .next (after .line fed) :=
  ⟨rfl, fun _ h => Instr.noConfusion h, rfl, rfl⟩

theorem witness_FaultsAndRefusalsStayRecorded :
    (let s := { fed with faults := [.cursorOverrun 0#32], refused := true }
     FaultRecord.cursorOverrun 0#32 ∈ s.faults ∧ s.refused = true ∧ s.cvalid = true)
      ∧ Instr.line ≠ .reset ∧ Instr.reset ≠ .line ∧ Instr.line.isRefused = false := by decide

theorem witness_StepRunsTheNextInput :
    decode tiny ⟨0x4330#16, 100#32⟩ = .wrVidHintline 100#32
      ∧ (Instr.wrVidHintline 100#32).wf tiny = true
      ∧ (deliver ⟨0x4330#16, 100#32⟩ base).inbox = [.transaction ⟨0x4330#16, 100#32⟩]
      ∧ ({ base with inbox := [.hostStore 0x1000#32 1#8] } : State).inbox = [.hostStore 0x1000#32 1#8]
      ∧ base.inbox = [] := by decide

theorem witness_HostStoresAreSeenByFetches :
    Memory.wf fed.mem = true ∧ (0x1000#32).toNat % 4 = 0 ∧ (0xFFFFFFFF#32).toNat % 4 = 3 := by decide

theorem witness_MemReadAssemblesFourBytes : exec .reset base = .next (after .reset base) := rfl

/-- An aligned window, and the odd start of V-LINE-13 at `H_ALIGN` 1. -/
theorem witness_AlignedPairsAreWhollyInsideOrOutside :
    (fed.cfg.Wf ∧ 2 ≤ fed.cfg.hAlign)
      ∧ (let s := { fed with cfg := { tiny with hAlign := 1 }, hstartRaw := 1#32, hsizeRaw := 2#32 }
         s.cfg.Wf ∧ s.cfg.hAlign = 1 ∧ (window s).hstart % 2 = 1 ∧ 0 < (window s).hsize
          ∧ (window s).vstart ≤ 0 ∧ 0 < (window s).vstart + (window s).vsize) := by decide

theorem witness_ResetWindowContainsNoPixel :
    base.hstartRaw = 0#32 ∧ base.hsizeRaw = 0#32 ∧ base.vstartRaw = 0#32 ∧ base.vsizeRaw = 0#32 := by
  decide

/-- Output off; the DMA off; nothing valid; a line 0 that promotes with the output off; and, with every
enable set and a misaligned cursor, a line below the window, one above it, and a window with no width. -/
theorem witness_LineWithoutFetchBlanksTheRow :
    (∀ s ∈ [ { fed with fcntl := 2#32 }, { fed with dmacntl := 0#32 }, { fed with cvalid := false }
           , { fed with fcntl := 0#32, dmacntl := 3#32 } ],
      s.cfg.Wf ∧ s.faults = [] ∧ s.line < s.cfg.screenHeight
        ∧ (vidEnab s && dmaEn s && (s.cvalid || (decide (s.line = 0) && nv s))) = false)
      ∧ ∀ s ∈ [ { fed with cursor := 3#32, vsizeRaw := 1#32, line := 1 }
              , { fed with cursor := 3#32, vstartRaw := 2#32, vsizeRaw := 0#32 }
              , { fed with cursor := 3#32, hsizeRaw := 1#32 } ],
        s.cfg.Wf ∧ s.faults = [] ∧ s.line < s.cfg.screenHeight
          ∧ (s.line < (window s).vstart ∨ (window s).vstart + (window s).vsize ≤ s.line
            ∨ (window s).hsize = 0) := by decide

theorem witness_LineBeyondTheScreenProducesNoPixels :
    (let s := { fed with line := 2 }
     s.cfg.Wf ∧ s.faults = [] ∧ s.cfg.screenHeight ≤ s.line ∧ s.line + 1 < s.cfg.totalLines) := by
  decide

/-- A row that ends exactly at the end of its buffer; one that ends at the top of the space; a line 0
that promotes its own descriptor; and the odd start of V-LINE-13 at `H_ALIGN` 1. -/
theorem witness_ActiveRowShowsHostMemory :
    ∀ s ∈ [ { fed with csize := 8#32 }
          , { fed with cstart := 0xFFFFFFF8#32, csize := 8#32, cursor := 0xFFFFFFF8#32 }
          , { fed with dmacntl := 3#32, cvalid := false, csize := 0#32, cursor := 1#32 }
          , { fed with cfg := { tiny with hAlign := 1 }, hstartRaw := 1#32, hsizeRaw := 2#32 } ],
      let w := window s
      let boot := decide (s.line = 0) && nv s
      let start := if boot then s.nstart else s.cstart
      let size := if boot then s.nsize else s.csize
      let a := if boot then cursorInit s.cfg.cursorInit s.nstart s.nsize w.hsize else s.cursor
      s.cfg.Wf ∧ s.faults = [] ∧ vidEnab s = true ∧ dmaEn s = true ∧ (boot = true ∨ s.cvalid = true)
        ∧ w.vstart ≤ s.line ∧ s.line < w.vstart + w.vsize ∧ a.toNat % 4 = 0 ∧ start.toNat ≤ a.toNat
        ∧ a.toNat + 2 * w.hsize ≤ start.toNat + size.toNat ∧ a.toNat + 2 * w.hsize ≤ 2 ^ 32
        ∧ 0 < w.hsize := by decide

/-- A misaligned cursor, in and out of bounds; an aligned one below the buffer; one at its end. -/
theorem witness_FaultingLineStepRollsBack :
    (∀ s ∈ [ { fed with cursor := 0x1002#32 }, { fed with cursor := 0x1001#32, csize := 0#32 }
           , { fed with cursor := 0xFFC#32 }, { fed with cursor := 0x1010#32 } ],
      s.cfg.Wf ∧ s.faults = [] ∧ (s.line = 0 → nv s = false) ∧ vidEnab s = true ∧ dmaEn s = true
        ∧ s.cvalid = true ∧ 0 < (window s).hsize ∧ (window s).vstart ≤ s.line
        ∧ s.line < (window s).vstart + (window s).vsize
        ∧ (s.cursor.toNat % 4 ≠ 0 ∨ (s.cursor.toNat % 4 = 0 ∧ (s.cursor.toNat < s.cstart.toNat
          ∨ s.cstart.toNat + s.csize.toNat < s.cursor.toNat + 4))))
      ∧ exec .line fed = .next (after .line fed) ∧ Instr.reset ≠ .line := ⟨by decide, rfl, by decide⟩

theorem witness_FaultedStateTakesNoLineStep :
    ({ fed with faults := [.cursorOverrun 0#32] } : State).faults ≠ [] := by decide

/-- A line that fetches, and the last line of an even and of an odd field. -/
theorem witness_LineStepRaisesItsVideoSources :
    ∀ s ∈ [fed, { fed with line := 3 }, { fed with line := 3, field := .odd }],
      s.cfg.Wf ∧ s.faults = [] ∧ exec .line s = .next s.lineStep ∧ s.lineStep.faults = [] := by
  have h : ∀ s ∈ [fed, { fed with line := 3 }, { fed with line := 3, field := .odd }],
      s.cfg.Wf ∧ s.faults = [] ∧ s.lineStep.faults = [] := by decide
  exact fun s hs => ⟨(h s hs).1, (h s hs).2.1, rfl, (h s hs).2.2⟩

theorem witness_LineStepFrame : exec .line fed = .next fed.lineStep := rfl

/-- Every number of steps up to the whole frame, the frame fed from a buffer of its exact size. -/
theorem witness_FrameIsTotalLinesSteps :
    fed.cfg.Wf ∧ fed.line = 0 ∧ fed.faults = [] ∧ fed.line < fed.cfg.totalLines
      ∧ fed.lineStep.faults = [] ∧ (fed.lines 3).faults = [] ∧ (fed.lines 4).faults = []
      ∧ 3 < fed.cfg.totalLines ∧ fed.hintline.toNat < fed.cfg.totalLines := by decide

/-- hintline 0, the last line, and one past the frame; no step, and the whole frame. -/
theorem witness_HsyncFiresExactlyOnItsLine :
    ∀ s ∈ [fed, { fed with hintline := 3#32 }, { fed with hintline := 4#32 }],
      s.cfg.Wf ∧ s.line = 0 ∧ s.faults = [] ∧ bit s.dstatus.video s.cfg.vbit.hsync = false
        ∧ 4 ≤ s.cfg.totalLines ∧ (s.lines 0).faults = [] ∧ s.lineStep.faults = []
        ∧ (s.lines 4).faults = [] := by decide

/-- A buffer of exactly one frame: promoted by the frame, in the middle of the address space and at its
top, and promoted before it, with NV 0. -/
theorem witness_FrameConsumesItsBuffer :
    ∀ s ∈ [{ fed with dmacntl := 3#32 }, { fed with dmacntl := 3#32, nstart := 0xFFFFFFF0#32 }, fed],
      let bytes := (window s).hsize * (window s).vsize * 2
      let start := if nv s then s.nstart else s.cstart
      let size := if nv s then s.nsize else s.csize
      let a := if nv s then cursorInit s.cfg.cursorInit s.nstart s.nsize (window s).hsize else s.cursor
      s.cfg.Wf ∧ s.line = 0 ∧ s.faults = [] ∧ vidEnab s = true ∧ dmaEn s = true
        ∧ (nv s = true ∨ s.cvalid = true) ∧ (s.lines s.cfg.totalLines).faults = []
        ∧ a.toNat % 4 = 0 ∧ start.toNat ≤ a.toNat ∧ a.toNat + bytes ≤ start.toNat + size.toNat
        ∧ a.toNat + bytes ≤ 2 ^ 32
        ∧ ((nv s = true ∧ s.cfg.cursorInit = .start) ∨ (nv s = false ∧ s.cursor = s.cstart))
        ∧ start.toNat % 4 = 0 ∧ size.toNat = bytes ∧ start.toNat + bytes ≤ 2 ^ 32 := by decide

theorem witness_ConverterTermsStayInRange : CscConstants.default.yRange ≠ 0 := by decide

theorem witness_PseudoTransactionsExpand : (Config.default.domainRegs.at .rio).isSome = true := by decide

/-- A domain whose registers are absent, and an ACK of it. -/
theorem witness_PseudoTransactionsOfAnAbsentDomain :
    (let s := State.powerOn { tiny with domainRegs := ⟨none, none, none, none⟩ }
     s.cfg.Wf ∧ s.cfg.domainRegs.at .audio = none)
      ∧ Pseudo.ack (.collab .audio) 1#32 ∈ [Pseudo.ack (.collab .audio) 1#32
        , .enable (.collab .audio) 1#32, .disable (.collab .audio) 1#32] := by decide

/-- A clear of VIDEO's visible bit 3, of AUDIO's enable, LOWER of TIMER, and RESET. -/
theorem witness_OnlyClearsAcknowledge :
    (let i := Instr.wrVidIntstatC 8#32
     exec i marked = .next (after i marked) ∧ pending marked .video = true
      ∧ pending (after i marked) .video = false)
      ∧ (let i := Instr.wrDomEnableC .audio 0x10#32
         exec i marked = .next (after i marked) ∧ pending marked .audio = true
          ∧ pending (after i marked) .audio = false)
      ∧ (let i := Instr.lowerTimer 4#32
         exec i marked = .next (after i marked) ∧ pending marked .timer = true
          ∧ pending (after i marked) .timer = false)
      ∧ exec .reset marked = .next (after .reset marked) ∧ pending marked .devio = true
      ∧ pending (after .reset marked) .devio = false :=
  ⟨⟨rfl, rfl, rfl⟩, ⟨rfl, rfl, rfl⟩, ⟨rfl, rfl, rfl⟩, rfl, rfl, rfl⟩

/-- A line step and the read of another register, in two states of unlike CHIP_CONTROL. -/
theorem witness_ChipControlHasNoEffect :
    (Instr.line ≠ .rdChipControl ∧ Instr.rdChipId ≠ .rdChipControl)
      ∧ exec .line fed = .next (after .line fed)
      ∧ exec .line { fed with chipControl := 7#32 }
        = .next (after .line { fed with chipControl := 7#32 })
      ∧ exec .rdChipId { fed with chipControl := 7#32 }
        = .next (after .rdChipId { fed with chipControl := 7#32 }) := ⟨by decide, rfl, rfl, rfl⟩

theorem witness_DecodeEncodeAgree :
    tiny.Wf ∧ ∀ i ∈ [ Instr.rdChipId, .wrDomEnableC .timer 1#32, .lowerRio 2#32, .rdReserved 0xFFC#12
                    , .refusedNotWordWidthWr 0b11#2 0xFFF#12
                    , .refusedBadEvent 0b11#2 0b1111#4 0b11111#5 0b111#3
                    , .refusedBadDomain 0b0011#4 0b111#3 ], i.wf tiny = true := by decide

/-- A write, a RAISE and a LOWER, none refused. -/
theorem witness_EveryCommandDecodesAndEncodesBack :
    [(d 0x4340#16 9#32).isRefused, (d 0x8105#16 9#32).isRefused, (d 0x8202#16 9#32).isRefused]
        = [false, false, false]
      ∧ (0x4340#16).extractLsb' 14 2 = 0b01#2 ∧ (0x8105#16).extractLsb' 14 2 = 0b10#2
      ∧ (0x8105#16).extractLsb' 8 4 = 0b0001#4 ∧ (0x8202#16).extractLsb' 14 2 = 0b10#2
      ∧ (0x8202#16).extractLsb' 8 4 = 0b0010#4 := by decide

theorem witness_RaiseAndLowerActOnTheirDomain :
    0b000#3 ∈ [0b000#3, 0b001#3, 0b110#3, 0b111#3] ∧ 0b111#3 ∈ [0b000#3, 0b001#3, 0b110#3, 0b111#3] := by
  decide

/-- The small machine with a LINE event waiting meets the invariant, and its step has a next state. -/
theorem witness_StepKeepsTheInvariant :
    (deliver ⟨0x8000#16, 0#32⟩ base).Inv
      ∧ step (deliver ⟨0x8000#16, 0#32⟩ base) = .next base.lineStep :=
  ⟨{ cfg := by decide, mem := by decide, line := by decide, shape := by decide, rows := by decide
     published := fun _ h => by cases h
     faults := ⟨by decide, fun _ h => by cases h⟩, current := by decide }, rfl⟩

theorem witness_ResetMeetsTheInvariant : tiny.Wf := by decide

end Sys2Proof.Tests
end

/-! PROOFS. Global status and the host line (10 R30, R31). Both statements rest on one fact,
`bit_gstatus`: a bit of global status is 1 exactly where it is GBIT of a pending domain. -/

namespace Sys2Proof.Machine

/-! ## Bits of words -/

@[simp] theorem bit_zero (i : Fin 32) : bit 0#32 i = false := BitVec.getLsbD_zero

@[simp] theorem bit_or (v w : Word) (i : Fin 32) : bit (v ||| w) i = (bit v i || bit w i) :=
  BitVec.getLsbD_or

@[simp] theorem bit_and (v w : Word) (i : Fin 32) : bit (v &&& w) i = (bit v i && bit w i) :=
  BitVec.getLsbD_and

@[simp] theorem bit_mask (i j : Fin 32) : bit (mask j) i = decide (j = i) := by
  have oneAt : mask j = BitVec.twoPow 32 j.val := (BitVec.twoPow_eq 32 j.val).symm
  simp [bit, oneAt, Fin.ext_iff, eq_comm]

theorem ne_zero_iff_exists_bit (v : Word) : v ≠ 0#32 ↔ ∃ i, bit v i = true := by
  constructor
  · intro nonzero
    by_contra! noBit
    refine nonzero (BitVec.eq_of_getLsbD_eq fun i inWord => ?_)
    simpa [bit] using noBit ⟨i, inWord⟩
  · rintro ⟨i, set⟩ rfl
    simp at set

/-! ## Domains -/

theorem exists_domain_iff (p : Domain → Prop) :
    (∃ d, p d) ↔ p .video ∨ p .audio ∨ p .devio ∨ p .rio ∨ p .timer := by
  constructor
  · rintro ⟨d, holds⟩
    cases d <;> simp [holds]
  · rintro (holds | holds | holds | holds | holds) <;> exact ⟨_, holds⟩

/-- `GBIT` is injective under the constraint of 00 R8. -/
theorem gbit_at_injective {c : Config} (ok : c.BitsOk) : Function.Injective c.gbit.at := by
  obtain ⟨distinct, -⟩ := ok
  have asMap : ([.video, .audio, .devio, .rio, .timer].map c.gbit.at).Nodup := distinct
  intro d e same
  exact List.inj_on_of_nodup_map asMap (by cases d <;> simp) (by cases e <;> simp) same

/-! ## Pending domains, global status and the line -/

theorem pending_iff (s : State) (d : Domain) :
    pending s d = true ↔ s.dstatus.at d &&& s.denable.at d ≠ 0#32 := bne_iff_ne

theorem bit_globalBit (s : State) (d : Domain) (i : Fin 32) :
    bit (globalBit s d) i = true ↔ pending s d = true ∧ s.cfg.gbit.at d = i := by
  unfold globalBit
  cases pending s d <;> simp

theorem bit_gstatus (s : State) (i : Fin 32) :
    bit (gstatus s) i = true ↔ ∃ d, pending s d = true ∧ s.cfg.gbit.at d = i := by
  simp only [gstatus, bit_or, Bool.or_eq_true, bit_globalBit, exists_domain_iff, or_assoc]

theorem irq_iff_intStatus_ne_zero (s : State) : irq s = true ↔ gstatus s &&& s.genable ≠ 0#32 :=
  bne_iff_ne

theorem irq_iff (s : State) :
    irq s = true ↔ ∃ d, pending s d = true ∧ bit s.genable (s.cfg.gbit.at d) = true := by
  rw [irq_iff_intStatus_ne_zero, ne_zero_iff_exists_bit]
  simp only [bit_and, Bool.and_eq_true, bit_gstatus]
  constructor
  · rintro ⟨_, ⟨d, isPending, rfl⟩, enabled⟩
    exact ⟨d, isPending, enabled⟩
  · rintro ⟨d, isPending, enabled⟩
    exact ⟨_, ⟨d, isPending, rfl⟩, enabled⟩

/-! ## The statements -/

/-- Settles O20: no other domain shares the bit of `d`, as GBIT is injective. -/
theorem globalStatusAggregatesPendingDomains :
    Obligations.GlobalStatusAggregatesPendingDomains := by
  unfold Obligations.GlobalStatusAggregatesPendingDomains
  intro s ok
  constructor
  · intro d
    rw [bit_gstatus, ← pending_iff]
    constructor
    · rintro ⟨e, isPending, sameBit⟩
      exact gbit_at_injective ok sameBit ▸ isPending
    · exact fun isPending => ⟨d, isPending, rfl⟩
  · intro i unowned
    rw [← Bool.not_eq_true, bit_gstatus]
    rintro ⟨d, -, owned⟩
    exact unowned d owned

/-- Settles O21: the line is a bit common to global status and the global enable. -/
theorem hostLineFollowsPendingEnabledDomains :
    Obligations.HostLineFollowsPendingEnabledDomains := by
  unfold Obligations.HostLineFollowsPendingEnabledDomains
  intro s
  exact ⟨irq_iff_intStatus_ne_zero s, by simpa only [pending_iff] using irq_iff s⟩

end Sys2Proof.Machine

/-! PROOFS. Reads and host memory (20 R63, R68). The shape of a register read is said once, in
`exec_read_cases`; the line step's part in both statements is what `lineRow_ok` says of a row. -/

namespace Sys2Proof.Machine

/-! ## The line step keeps host memory and the configuration -/

/-- The visible part of a line step writes the frame and the cursor alone. -/
theorem lineRow_ok {s t : State} (ok : s.lineRow = .ok t) :
    ∃ fb cursor, t = { s with fb := fb, cursor := cursor } := by
  rcases lineRow_cases s with ⟨-, row⟩ | ⟨-, noRow⟩
  · obtain ⟨cells, a, -, written⟩ := produceRow_ok (row ▸ ok)
    exact ⟨_, _, written⟩
  · cases noRow.symm.trans ok
    exact ⟨_, _, rfl⟩

@[simp] theorem lineEnd_mem (s : State) : s.lineEnd.mem = s.mem := by
  rcases lineEnd_cases s with ⟨-, frame⟩ | ⟨-, next⟩
  · rw [frame, frameEnd_mem]
  · rw [next]

@[simp] theorem lineEnd_cfg (s : State) : s.lineEnd.cfg = s.cfg := by
  rcases lineEnd_cases s with ⟨-, frame⟩ | ⟨-, next⟩
  · rw [frame, frameEnd_cfg]
  · rw [next]

@[simp] theorem lineStep_mem (s : State) : s.lineStep.mem = s.mem := by
  rcases lineStep_cases s with ⟨-, faulted⟩ | ⟨-, f, -, recorded⟩ | ⟨-, t, row, ended⟩
  · rw [faulted]
  · rw [recorded, recordFault_mem]
  · obtain ⟨fb, cursor, rfl⟩ := lineRow_ok row
    rw [ended, lineEnd_mem, lineBegin_mem]

@[simp] theorem lineStep_cfg (s : State) : s.lineStep.cfg = s.cfg := by
  rcases lineStep_cases s with ⟨-, faulted⟩ | ⟨-, f, -, recorded⟩ | ⟨-, t, row, ended⟩
  · rw [faulted]
  · rw [recorded, recordFault_cfg]
  · obtain ⟨fb, cursor, rfl⟩ := lineRow_ok row
    rw [ended, lineEnd_cfg, lineBegin_cfg]

/-- No transaction changes the configuration, which is no state of the block (10 R53). -/
theorem exec_cfg {i : Instr} {s t : State} (next : exec i s = .next t) : t.cfg = s.cfg := by
  cases i with
  | line => cases next; exact lineStep_cfg s
  | wrVidNstart | wrVidNsize | wrVidDmacntl => cases next; exact promoteOnWrite_cfg _
  | _ => cases next; rfl

/-! ## Register reads -/

/-- A value on which what was logged and what was handed out have no bearing. -/
def IgnoresRecords (value : State → Word) : Prop :=
  ∀ (s : State) (log : List LogEvent) (output : List Output),
    value { s with log := log, output := output } = value s

theorem IgnoresRecords.respond {value : State → Word} (ignores : IgnoresRecords value) (s : State)
    (v : Word) : value (s.respond v) = value s :=
  ignores s s.log _

/-- A register read is of a reserved offset, or it answers a value of the registers and does nothing
else. -/
theorem exec_read_cases {i : Instr} (isRead : i.isRead = true) :
    (∃ offset, i = .rdReserved offset)
      ∨ ((∀ offset, i ≠ .rdReserved offset)
        ∧ ∃ value, IgnoresRecords value ∧ ∀ s, exec i s = .next (s.respond (value s))) := by
  cases i <;> cases isRead
  case rdReserved offset => exact .inl ⟨offset, rfl⟩
  all_goals
    refine .inr ⟨nofun, _, ?_, fun _ => rfl⟩
    exact fun _ _ _ => rfl

theorem exec_rdReserved (offset : Offset) (s : State) :
    exec (.rdReserved offset) s = .next ((s.logEvent (.reservedRead offset)).respond 0#32) := rfl

/-- Settles O26: a read of a mapped offset answers a value that its own answer does not disturb, and a
reserved one answers 0. -/
theorem readsChangeNothingButTheLog : Obligations.ReadsChangeNothingButTheLog := by
  unfold Obligations.ReadsChangeNothingButTheLog
  refine ⟨fun i s isRead => ?_, fun s t next => ?_⟩
  · rcases exec_read_cases isRead with ⟨offset, rfl⟩ | ⟨mapped, value, ignores, answers⟩
    · refine ⟨_, 0#32, exec_rdReserved offset s, rfl, rfl, fun other => (other offset rfl).elim, ?_,
        _, exec_rdReserved offset _, rfl⟩
      rintro _ ⟨⟩
      rfl
    · refine ⟨_, value s, answers s, rfl, rfl, fun _ => rfl, fun offset is => (mapped offset is).elim,
        _, answers _, ?_⟩
      rw [ignores.respond, respond_output]
  · cases next
    exact lineStep_mem s

/-! ## The order of the bytes of a word -/

theorem wordOfBytes_big_toNat (b0 b1 b2 b3 : Byte) :
    (wordOfBytes .big b0 b1 b2 b3).toNat
      = b0.toNat * 2 ^ 24 + b1.toNat * 2 ^ 16 + b2.toNat * 2 ^ 8 + b3.toNat := by
  show (b0 ++ (b1 ++ (b2 ++ b3))).toNat = _
  rw [toNat_append_eq, toNat_append_eq, toNat_append_eq]
  omega

/-- The little-endian word is the big-endian word of the bytes the other way round. -/
theorem wordOfBytes_little (b0 b1 b2 b3 : Byte) :
    wordOfBytes .little b0 b1 b2 b3 = wordOfBytes .big b3 b2 b1 b0 := rfl

/-- The first luma sample of a pair is the most significant byte of its word (42 R210). -/
theorem unpack_wordOfBytes_big_y1 (b0 b1 b2 b3 : Byte) :
    (unpack (wordOfBytes .big b0 b1 b2 b3)).y1 = b0 :=
  BitVec.extractLsb'_append_eq_left

/-- Settles O32: the numbers and samples of the two orders are those of one big-endian word, with the
bytes taken forward and backward. -/
theorem memReadAssemblesFourBytes : Obligations.MemReadAssemblesFourBytes := by
  unfold Obligations.MemReadAssemblesFourBytes
  refine ⟨fun m a => ?_, fun i s t next => by rw [exec_cfg next]⟩
  simp only [memRead, wordOfBytes_little]
  exact ⟨wordOfBytes_big_toNat .., wordOfBytes_big_toNat .., unpack_wordOfBytes_big_y1 ..,
    unpack_wordOfBytes_big_y1 ..⟩

end Sys2Proof.Machine

/-! PROOFS. The refused encodings and the pseudo-transactions (30 R92, R95). KIND says which decoder
reads a command (`decode_cases`), and each decoder says once when it refuses. -/

namespace Sys2Proof

/-! ## What each decoder refuses -/

@[simp] theorem readOf_isRefused (slot : Slot) : (readOf slot).isRefused = false := by
  cases slot with
  | dom d r => cases r <;> rfl
  | _ => rfl

@[simp] theorem writeOf_isRefused (data : Word) (slot : Slot) :
    (writeOf data slot).isRefused = false := by
  cases slot with
  | dom d r => cases r <;> rfl
  | _ => rfl

@[simp] theorem raiseOf_isRefused (dom : BitVec 3) (data : Word) :
    (raiseOf dom data).isRefused = false := by
  unfold raiseOf
  split_ifs <;> rfl

@[simp] theorem lowerOf_isRefused (dom : BitVec 3) (data : Word) :
    (lowerOf dom data).isRefused = false := by
  unfold lowerOf
  split_ifs <;> rfl

/-- Reads, writes and events make two tests in turn, each with its refusal (30 R90 (2), (6)). -/
theorem isRefused_of_tests {bad₁ bad₂ : Bool} {refusal₁ refusal₂ i : Instr}
    (refused₁ : refusal₁.isRefused = true) (refused₂ : refusal₂.isRefused = true)
    (accepted : i.isRefused = false) :
    (if bad₁ then refusal₁ else if bad₂ then refusal₂ else i).isRefused = (bad₁ || bad₂) := by
  cases bad₁
  · cases bad₂
    · exact accepted
    · exact refused₂
  · exact refused₁

theorem decodeRead_isRefused (cfg : Config) (width : BitVec 2) (offset : Offset) :
    (decodeRead cfg width offset).isRefused = (width != 0#2 || !wordAligned offset) := by
  refine isRefused_of_tests rfl rfl ?_
  cases slotAt cfg offset with
  | none => rfl
  | some slot => exact readOf_isRefused slot

theorem decodeWrite_isRefused (cfg : Config) (width : BitVec 2) (offset : Offset) (data : Word) :
    (decodeWrite cfg width offset data).isRefused = (width != 0#2 || !wordAligned offset) := by
  refine isRefused_of_tests rfl rfl ?_
  cases slotAt cfg offset with
  | none => rfl
  | some slot => exact writeOf_isRefused data slot

theorem decodeEvent_isRefused (zeroHi : BitVec 2) (ev : BitVec 4) (zeroLo : BitVec 5)
    (dom : BitVec 3) (data : Word) :
    (decodeEvent zeroHi ev zeroLo dom data).isRefused
      = (badEventFields zeroHi ev zeroLo || badDomainFields ev dom) := by
  refine isRefused_of_tests rfl rfl ?_
  split_ifs
  · rfl
  · exact raiseOf_isRefused dom data
  · exact lowerOf_isRefused dom data
  · rfl

/-! ## The refusals as arithmetic on the fields -/

theorem badAccessFields_iff (width : BitVec 2) (offset : Offset) :
    (width != 0#2 || !wordAligned offset) = true ↔ width.toNat ≠ 0 ∨ offset.toNat % 4 ≠ 0 := by
  rw [Bool.or_eq_true, Bool.not_eq_true', ← Bool.not_eq_true, wordAligned_iff]
  simp [← BitVec.toNat_inj]

theorem badEventFields_iff (zeroHi : BitVec 2) (ev : BitVec 4) (zeroLo : BitVec 5) :
    badEventFields zeroHi ev zeroLo = true
      ↔ zeroHi.toNat ≠ 0 ∨ zeroLo.toNat ≠ 0 ∨ 3 < ev.toNat := by
  simp [badEventFields, BitVec.lt_def, ← BitVec.toNat_inj, or_assoc]

theorem badDomainFields_iff (ev : BitVec 4) (dom : BitVec 3) :
    badDomainFields ev dom = true
      ↔ if ev.toNat = 0 ∨ ev.toNat = 3 then dom.toNat ≠ 0 else dom.toNat < 2 ∨ 5 < dom.toNat := by
  have lineOrReset : (ev == 0b0000#4 || ev == 0b0011#4) = true ↔ ev.toNat = 0 ∨ ev.toNat = 3 := by
    simp [← BitVec.toNat_inj]
  unfold badDomainFields
  rw [if_congr lineOrReset rfl rfl]
  split_ifs <;> simp [BitVec.lt_def, ← BitVec.toNat_inj]

theorem badEventOrDomainFields_iff (zeroHi : BitVec 2) (ev : BitVec 4) (zeroLo : BitVec 5)
    (dom : BitVec 3) :
    (badEventFields zeroHi ev zeroLo || badDomainFields ev dom) = true
      ↔ zeroHi.toNat ≠ 0 ∨ zeroLo.toNat ≠ 0 ∨ 3 < ev.toNat
        ∨ ((ev.toNat = 0 ∨ ev.toNat = 3) ∧ dom.toNat ≠ 0)
        ∨ ((ev.toNat = 1 ∨ ev.toNat = 2) ∧ (dom.toNat < 2 ∨ 5 < dom.toNat)) := by
  rw [Bool.or_eq_true, badEventFields_iff, badDomainFields_iff]
  split_ifs <;> omega

/-! ## KIND chooses the decoder -/

theorem decode_cases (cfg : Config) (t : Transaction) :
    let kind := t.cmd.extractLsb' 14 2
    let width := t.cmd.extractLsb' 12 2
    let offset := t.cmd.extractLsb' 0 12
    (kind = 0b00#2 ∧ decode cfg t = decodeRead cfg width offset)
      ∨ (kind = 0b01#2 ∧ decode cfg t = decodeWrite cfg width offset t.data)
      ∨ (kind = 0b10#2 ∧ decode cfg t = decodeEvent width (t.cmd.extractLsb' 8 4)
          (t.cmd.extractLsb' 3 5) (t.cmd.extractLsb' 0 3) t.data)
      ∨ (kind = 0b11#2 ∧ decode cfg t = .refusedReservedKind (t.cmd.extractLsb' 0 14)) := by
  have fourKinds : ∀ k : BitVec 2, k = 0b00#2 ∨ k = 0b01#2 ∨ k = 0b10#2 ∨ k = 0b11#2 := by decide
  unfold decode
  rcases fourKinds (t.cmd.extractLsb' 14 2) with kind | kind | kind | kind <;> simp [kind]

/-- Settles O17: KIND chooses the decoder, and the refusals of each are arithmetic on its fields. -/
theorem refusedCommandsAreTheReservedEncodings :
    Obligations.RefusedCommandsAreTheReservedEncodings := by
  unfold Obligations.RefusedCommandsAreTheReservedEncodings
  intro cfg t c kind ev dom
  have kindField : (t.cmd.extractLsb' 14 2).toNat = kind := by
    rw [BitVec.extractLsb'_toNat, Nat.shiftRight_eq_div_pow]
    have := t.cmd.isLt
    omega
  rcases decode_cases cfg t with ⟨is, eq⟩ | ⟨is, eq⟩ | ⟨is, eq⟩ | ⟨is, eq⟩ <;>
    rw [eq, ← kindField, is]
  · rw [decodeRead_isRefused, badAccessFields_iff]
    simp [Nat.shiftRight_eq_div_pow, c]
  · rw [decodeWrite_isRefused, badAccessFields_iff]
    simp [Nat.shiftRight_eq_div_pow, c]
  · rw [decodeEvent_isRefused, badEventOrDomainFields_iff]
    simp [Nat.shiftRight_eq_div_pow, ev, dom, c]
  · exact iff_of_true rfl (.inl rfl)

end Sys2Proof

namespace Sys2Proof.Machine

/-! ## The pseudo-transactions -/

theorem pairWrite_of_mapped {cfg : Config} {p : PairName} (mapped : p.mapped cfg = true)
    (i : Instr) : pairWrite cfg p i = [i] := if_pos mapped

/-- A transaction with a next state hands it to the rest of the list. -/
theorem execAll_cons {i : Instr} {s t : State} (next : exec i s = .next t) (rest : List Instr) :
    execAll (i :: rest) s = execAll rest t := by
  rw [execAll, next]

/-- The four window writes change nothing but the raw registers (41 R158, R160, R162, R164). -/
theorem execAll_setwin (cfg : Config) (s : State) (hs hz vs vz : Word) :
    execAll (expand cfg (.setwin hs hz vs vz)) s
      = .next { s with hstartRaw := hs, hsizeRaw := hz, vstartRaw := vs, vsizeRaw := vz } := by
  unfold expand
  iterate 4 rw [execAll_cons rfl]
  rfl

/-- Settles O49: each pair here is mapped, so its pseudo-transaction is its one write. -/
theorem pseudoTransactionsExpand : Obligations.PseudoTransactionsExpand := by
  unfold Obligations.PseudoTransactionsExpand
  refine ⟨fun _ => rfl, fun cfg m => ?_, fun cfg m d mapped => ?_,
    fun s hs hz vs vz => ⟨rfl, execAll_setwin s.cfg s hs hz vs vz⟩⟩
  · have global (i) : pairWrite cfg .global i = [i] := pairWrite_of_mapped rfl i
    have video (i) : pairWrite cfg .video i = [i] := pairWrite_of_mapped rfl i
    exact ⟨global _, video _, global _, video _, global _, video _⟩
  · have collab (i) : pairWrite cfg (.collab d) i = [i] :=
      pairWrite_of_mapped (p := .collab d) mapped i
    exact ⟨collab _, collab _, collab _⟩

end Sys2Proof.Machine

/-! PROOFS. The interrupt registers and reserved offsets (40 R104 to R129). A command word is taken
apart once, in `decode_read`, `decode_write` and `decode_event`; `reads_of_mapped` and
`writes_of_mapped` then give each fixed register of 30 R84 and R85 its command. -/

namespace Sys2Proof

/-! ## The fields of a command word -/

theorem extractLsb'_eq_iff (cmd : BitVec 16) (lo : Nat) {n : Nat} (v : BitVec n) :
    cmd.extractLsb' lo n = v ↔ cmd.toNat / 2 ^ lo % 2 ^ n = v.toNat := by
  rw [← BitVec.toNat_inj, BitVec.extractLsb'_toNat, Nat.shiftRight_eq_div_pow]

theorem accessCmd_fields (kind width : BitVec 2) (offset : Offset) :
    (accessCmd kind width offset).extractLsb' 14 2 = kind
      ∧ (accessCmd kind width offset).extractLsb' 12 2 = width
      ∧ (accessCmd kind width offset).extractLsb' 0 12 = offset := by
  simp only [extractLsb'_eq_iff, accessCmd_toNat]
  omega

theorem eventCmd_fields (zeroHi : BitVec 2) (ev : BitVec 4) (zeroLo : BitVec 5) (dom : BitVec 3) :
    (eventCmd zeroHi ev zeroLo dom).extractLsb' 14 2 = 0b10#2
      ∧ (eventCmd zeroHi ev zeroLo dom).extractLsb' 12 2 = zeroHi
      ∧ (eventCmd zeroHi ev zeroLo dom).extractLsb' 8 4 = ev
      ∧ (eventCmd zeroHi ev zeroLo dom).extractLsb' 3 5 = zeroLo
      ∧ (eventCmd zeroHi ev zeroLo dom).extractLsb' 0 3 = dom := by
  simp only [extractLsb'_eq_iff, eventCmd_toNat, BitVec.toNat_ofNat]
  omega

theorem decode_read (cfg : Config) (width : BitVec 2) (offset : Offset) (data : Word) :
    decode cfg ⟨accessCmd 0b00#2 width offset, data⟩ = decodeRead cfg width offset := by
  obtain ⟨kind, width', offset'⟩ := accessCmd_fields 0b00#2 width offset
  simp [decode, kind, width', offset']

theorem decode_write (cfg : Config) (width : BitVec 2) (offset : Offset) (data : Word) :
    decode cfg ⟨accessCmd 0b01#2 width offset, data⟩ = decodeWrite cfg width offset data := by
  obtain ⟨kind, width', offset'⟩ := accessCmd_fields 0b01#2 width offset
  simp [decode, kind, width', offset']

theorem decode_event (cfg : Config) (zeroHi : BitVec 2) (ev : BitVec 4) (zeroLo : BitVec 5)
    (dom : BitVec 3) (data : Word) :
    decode cfg ⟨eventCmd zeroHi ev zeroLo dom, data⟩ = decodeEvent zeroHi ev zeroLo dom data := by
  obtain ⟨kind, zeroHi', ev', zeroLo', dom'⟩ := eventCmd_fields zeroHi ev zeroLo dom
  simp [decode, kind, zeroHi', ev', zeroLo', dom']

/-! ## Mapped and reserved offsets -/

/-- The fixed rows come first, whatever `DOMAIN_REGS` maps (30 R90 (3)). -/
theorem slotAt_of_registerMap (cfg : Config) {offset : Offset} {slot : Slot}
    (mapped : registerMap.lookup offset = some slot) : slotAt cfg offset = some slot := by
  rw [slotAt, List.lookup_append, mapped, Option.some_or]

theorem slotAt_eq_none_iff (cfg : Config) (offset : Offset) :
    slotAt cfg offset = none
      ↔ ∀ slot, (offset, slot) ∉ registerMap ++ domainMap cfg.domainRegs := by
  simp only [slotAt, List.lookup_eq_none_iff, bne_iff_ne]
  constructor
  · exact fun unmapped slot row => unmapped _ row rfl
  · rintro unmapped ⟨_, slot⟩ row rfl
    exact unmapped slot row

theorem decodeRead_of_mapped {cfg : Config} {offset : Offset} {slot : Slot}
    (aligned : wordAligned offset = true) (mapped : slotAt cfg offset = some slot) :
    decodeRead cfg 0b00#2 offset = readOf slot := by
  simp [decodeRead, aligned, mapped]

theorem decodeWrite_of_mapped {cfg : Config} {offset : Offset} {slot : Slot} (data : Word)
    (aligned : wordAligned offset = true) (mapped : slotAt cfg offset = some slot) :
    decodeWrite cfg 0b00#2 offset data = writeOf data slot := by
  simp [decodeWrite, aligned, mapped]

theorem decodeRead_of_reserved {cfg : Config} {offset : Offset}
    (aligned : wordAligned offset = true) (reserved : slotAt cfg offset = none) :
    decodeRead cfg 0b00#2 offset = .rdReserved offset := by
  simp [decodeRead, aligned, reserved]

theorem decodeWrite_of_reserved {cfg : Config} {offset : Offset} (data : Word)
    (aligned : wordAligned offset = true) (reserved : slotAt cfg offset = none) :
    decodeWrite cfg 0b00#2 offset data = .wrReserved offset data := by
  simp [decodeWrite, aligned, reserved]

theorem readOf_ne_rdReserved (slot : Slot) (offset : Offset) :
    readOf slot ≠ .rdReserved offset := by
  cases slot with
  | dom d r => cases r <;> nofun
  | _ => nofun

theorem decodeEvent_of_badDomain {ev : BitVec 4} {dom : BitVec 3}
    (known : badEventFields 0b00#2 ev 0b00000#5 = false) (bad : badDomainFields ev dom = true)
    (data : Word) :
    decodeEvent 0b00#2 ev 0b00000#5 dom data = .refusedBadDomain ev dom := by
  simp [decodeEvent, known, bad]

end Sys2Proof

namespace Sys2Proof.Machine

/-! ## The commands of the fixed registers and of the events -/

/-- A fixed row's read command, and what the read answers. -/
theorem reads_of_mapped {offset : Offset} {slot : Slot} {value : State → Word}
    (aligned : wordAligned offset = true) (mapped : registerMap.lookup offset = some slot)
    (answers : ∀ s, exec (readOf slot) s = .next (s.respond (value s))) :
    Reads (accessCmd 0b00#2 0b00#2 offset) (readOf slot) value :=
  ⟨fun cfg data => (decode_read cfg _ offset data).trans
    (decodeRead_of_mapped aligned (slotAt_of_registerMap cfg mapped)), answers⟩

/-- A fixed row's write command, and what the write does. -/
theorem writes_of_mapped {offset : Offset} {slot : Slot} {effect : Word → State → State}
    (aligned : wordAligned offset = true) (mapped : registerMap.lookup offset = some slot)
    (acts : ∀ data s, exec (writeOf data slot) s = .next (effect data s)) :
    Writes (accessCmd 0b01#2 0b00#2 offset) (fun data => writeOf data slot) effect :=
  ⟨fun cfg data => (decode_write cfg _ offset data).trans
    (decodeWrite_of_mapped data aligned (slotAt_of_registerMap cfg mapped)), acts⟩

/-- An event's command, and what the event does. -/
theorem writes_of_event {ev : BitVec 4} {dom : BitVec 3} {i : Word → Instr}
    {effect : Word → State → State}
    (decodes : ∀ data, decodeEvent 0b00#2 ev 0b00000#5 dom data = i data)
    (acts : ∀ data s, exec (i data) s = .next (effect data s)) :
    Writes (eventCmd 0b00#2 ev 0b00000#5 dom) i effect :=
  ⟨fun cfg data => (decode_event cfg _ ev _ dom data).trans (decodes data), acts⟩

/-! ## The bus unit -/

/-- Settles O1: six rows of the register map. A bit of INT_STATUS has to be enabled, and to be GBIT
of a pending domain. -/
theorem busUnitReadsAnswer : Obligations.BusUnitReadsAnswer := by
  unfold Obligations.BusUnitReadsAnswer
  refine ⟨reads_of_mapped (offset := 0x000#12) rfl rfl fun _ => rfl,
    reads_of_mapped (offset := 0x004#12) rfl rfl fun _ => rfl,
    reads_of_mapped (offset := 0x008#12) rfl rfl fun _ => rfl,
    reads_of_mapped (offset := 0x00C#12) rfl rfl fun _ => rfl,
    reads_of_mapped (offset := 0x108#12) rfl rfl fun _ => rfl,
    reads_of_mapped (offset := 0x10C#12) rfl rfl fun _ => rfl, ?_, fun _ => rfl⟩
  intro s i disabledOrUnowned
  rw [bit_and, Bool.and_eq_false_iff]
  rcases disabledOrUnowned with disabled | unowned
  · exact .inr disabled
  · refine .inl (Bool.eq_false_iff.mpr fun set => ?_)
    obtain ⟨d, -, owned⟩ := (bit_gstatus s i).mp set
    exact unowned d owned

/-- A pending domain whose bit of the global enable is set asserts the line. -/
theorem irq_of_pending {s : State} {d : Domain} (isPending : pending s d = true)
    (enabled : bit s.genable (s.cfg.gbit.at d) = true) : irq s = true :=
  (irq_iff s).mpr ⟨d, isPending, enabled⟩

theorem irq_setGenable {s : State} {d : Domain} {data : Word} (isPending : pending s d = true)
    (inData : bit data (s.cfg.gbit.at d) = true) :
    irq { s with genable := s.genable ||| data } = true :=
  irq_of_pending (d := d) isPending (by simp [inData])

/-- Settles O3: pending does not look at the global enable, so the line follows the enabled bit. -/
theorem globalEnableSetsAndClearsAndDrivesLine :
    Obligations.GlobalEnableSetsAndClearsAndDrivesLine := by
  unfold Obligations.GlobalEnableSetsAndClearsAndDrivesLine
  refine ⟨writes_of_mapped (offset := 0x00C#12) rfl rfl fun _ _ => rfl,
    writes_of_mapped (offset := 0x10C#12) rfl rfl fun _ _ => rfl, ?_, ?_⟩
  · exact fun s d data isPending inData => ⟨_, rfl, irq_setGenable isPending inData⟩
  · exact fun s d data => ⟨_, rfl, rfl, fun isPending =>
      ⟨_, rfl, irq_setGenable (d := d) isPending (by simp)⟩⟩

/-! ## Reserved offsets -/

/-- The sixteen slots 0x300 to 0x33C are rows of the fixed map. -/
theorem videoSlots_mapped : ∀ k : Fin 16,
    let offset := 0x300#12 + BitVec.ofNat 12 (4 * k.val)
    0x0300#16 + BitVec.ofNat 16 (4 * k.val) = accessCmd 0b00#2 0b00#2 offset
      ∧ wordAligned offset = true ∧ (registerMap.lookup offset).isSome = true := by decide

/-- Settles O15: an offset that no row names looks up nothing, and each of the sixteen video slots
is named by a fixed row, whose read is another transaction. -/
theorem reservedOffsetsReadZeroAndLog : Obligations.ReservedOffsetsReadZeroAndLog := by
  unfold Obligations.ReservedOffsetsReadZeroAndLog
  refine ⟨fun cfg offset data multipleOf4 unmapped => ?_, fun cfg k data offset => ?_,
    fun offset data s => ⟨rfl, rfl⟩⟩
  · have aligned := (wordAligned_iff offset).mpr multipleOf4
    have reserved := (slotAt_eq_none_iff cfg offset).mpr unmapped
    exact ⟨(decode_read ..).trans (decodeRead_of_reserved aligned reserved),
      (decode_write ..).trans (decodeWrite_of_reserved data aligned reserved)⟩
  · obtain ⟨command, aligned, named⟩ := videoSlots_mapped k
    obtain ⟨slot, mapped⟩ := Option.isSome_iff_exists.mp named
    rw [command, decode_read, decodeRead_of_mapped aligned (slotAt_of_registerMap cfg mapped)]
    exact readOf_ne_rdReserved slot offset

/-! ## The collaborators' events -/

/-- The codes of VIDEO and of no domain are refused for RAISE and LOWER (30 R90 (6)). -/
theorem raiseLower_badDomain : ∀ dom ∈ [0b000#3, 0b001#3, 0b110#3, 0b111#3],
    0x8100#16 ||| dom.setWidth 16 = eventCmd 0b00#2 0b0001#4 0b00000#5 dom
      ∧ 0x8200#16 ||| dom.setWidth 16 = eventCmd 0b00#2 0b0010#4 0b00000#5 dom
      ∧ badDomainFields 0b0001#4 dom = true ∧ badDomainFields 0b0010#4 dom = true := by decide

/-- Settles O14: EV and DOM name the event, and a DOM that names no collaborator is a BadDomain. -/
theorem raiseAndLowerActOnTheirDomain : Obligations.RaiseAndLowerActOnTheirDomain := by
  unfold Obligations.RaiseAndLowerActOnTheirDomain
  refine ⟨writes_of_event (ev := 1) (dom := 2) (fun _ => rfl) fun _ _ => rfl,
    writes_of_event (ev := 2) (dom := 2) (fun _ => rfl) fun _ _ => rfl,
    writes_of_event (ev := 1) (dom := 3) (fun _ => rfl) fun _ _ => rfl,
    writes_of_event (ev := 2) (dom := 3) (fun _ => rfl) fun _ _ => rfl,
    writes_of_event (ev := 1) (dom := 4) (fun _ => rfl) fun _ _ => rfl,
    writes_of_event (ev := 2) (dom := 4) (fun _ => rfl) fun _ _ => rfl,
    writes_of_event (ev := 1) (dom := 5) (fun _ => rfl) fun _ _ => rfl,
    writes_of_event (ev := 2) (dom := 5) (fun _ => rfl) fun _ _ => rfl,
    fun cfg data dom named => ?_⟩
  obtain ⟨raiseCmd, lowerCmd, badRaise, badLower⟩ := raiseLower_badDomain dom named
  rw [raiseCmd, lowerCmd, decode_event, decode_event]
  exact ⟨decodeEvent_of_badDomain rfl badRaise data, decodeEvent_of_badDomain rfl badLower data⟩

end Sys2Proof.Machine

/-! PROOFS. What the enables and CHIP_CONTROL have no bearing on, and what ends a domain's pending
(40 R107, R115, R128, R129). Of the line step two facts are needed, `lineStep_withMasks` and
`lineStep_keepsStatus`. -/

namespace Sys2Proof.Machine

/-! ## Writing 1s to set, then to clear -/

theorem put_put (w : DomainWords) (d : Domain) (u v : Word) : (w.put d u).put d v = w.put d v := by
  cases d <;> rfl

theorem or_and_not_self (e m : Word) : (e ||| m) &&& ~~~m = e &&& ~~~m := by
  simp [BitVec.and_or_distrib_right]

/-- What a write of 1s sets, the write of the same 1s clears again. -/
theorem enableClear_enableSet (s : State) (d : Domain) (m : Word) :
    (s.enableSet d m).enableClear d m = s.enableClear d m := by
  simp [State.enableSet, State.enableClear, put_put, or_and_not_self]

theorem and_not_eq_self_iff (e m : Word) : e &&& ~~~m = e ↔ e &&& m = 0#32 := by
  constructor
  · intro kept
    rw [← kept]
    simp [BitVec.and_assoc]
  · intro disjoint
    calc e &&& ~~~m = e &&& m ||| e &&& ~~~m := by simp [disjoint]
      _ = e := by rw [← BitVec.and_or_distrib_left, BitVec.or_not_self, BitVec.and_allOnes]

/-- Settles O25: the clear takes back what the set added, and the bits of M that were set before. -/
theorem enableRoundTripRestoresExactlyDisjointMasks :
    Obligations.EnableRoundTripRestoresExactlyDisjointMasks := by
  unfold Obligations.EnableRoundTripRestoresExactlyDisjointMasks
  intro s m
  refine ⟨?_, fun d => ?_, fun e => and_not_eq_self_iff e m⟩
  · exact congrArg Host.Outcome.next (enableClear_enableSet s .video m)
  · exact congrArg Host.Outcome.next (enableClear_enableSet s d.domain m)

/-! ## Registers that neither scanout nor promotion looks at -/

/-- The state with other values in CHIP_CONTROL, the global enable and the domain enables. -/
def State.withMasks (s : State) (chipControl genable : Word) (denable : DomainWords) : State :=
  { s with chipControl := chipControl, genable := genable, denable := denable }

section Masks
variable (s : State) (c g : Word) (e : DomainWords)

theorem frameBegin_withMasks : (s.withMasks c g e).frameBegin = s.frameBegin.withMasks c g e := by
  rw [State.frameBegin, State.frameBegin, apply_ite (State.withMasks · c g e)]
  rfl

theorem promoteOnWrite_withMasks :
    (s.withMasks c g e).promoteOnWrite = s.promoteOnWrite.withMasks c g e := by
  rw [State.promoteOnWrite, State.promoteOnWrite, apply_ite (State.withMasks · c g e)]
  rfl

theorem hsyncMatch_withMasks (y : Nat) :
    (s.withMasks c g e).hsyncMatch y = (s.hsyncMatch y).withMasks c g e := by
  rw [State.hsyncMatch, State.hsyncMatch, apply_ite (State.withMasks · c g e)]
  rfl

theorem lineBegin_withMasks : (s.withMasks c g e).lineBegin = s.lineBegin.withMasks c g e := by
  rw [State.lineBegin, State.lineBegin, frameBegin_withMasks, ← hsyncMatch_withMasks,
    apply_ite (State.withMasks · c g e)]
  rfl

theorem pairCells_withMasks (win : ActiveWindow) (y n x : Nat) (a : Word) :
    pairCells (s.withMasks c g e) win y n x a = pairCells s win y n x a := by
  induction n generalizing x a with
  | zero => rfl
  | succ n ih =>
    have sameWord : pairWord (s.withMasks c g e) win y x a = pairWord s win y x a := rfl
    simp only [pairCells, ih, sameWord]
    rfl

theorem produceRow_withMasks (y : Nat) :
    produceRow (s.withMasks c g e) y = (produceRow s y).map (State.withMasks · c g e) := by
  have sameCells : pairCells (s.withMasks c g e) (window (s.withMasks c g e)) y
      ((s.withMasks c g e).cfg.screenWidth / 2) 0 (s.withMasks c g e).cursor
        = pairCells s (window s) y (s.cfg.screenWidth / 2) 0 s.cursor := pairCells_withMasks ..
  rw [produceRow, produceRow, sameCells]
  cases pairCells s (window s) y (s.cfg.screenWidth / 2) 0 s.cursor <;> rfl

theorem lineRow_withMasks :
    (s.withMasks c g e).lineRow = s.lineRow.map (State.withMasks · c g e) := by
  rw [State.lineRow, State.lineRow, produceRow_withMasks,
    apply_ite (Except.map (State.withMasks · c g e))]
  rfl

theorem lineEnd_withMasks : (s.withMasks c g e).lineEnd = s.lineEnd.withMasks c g e := by
  rw [State.lineEnd, State.lineEnd, apply_ite (State.withMasks · c g e)]
  rfl

/-- A line step neither looks at these registers nor changes them. -/
theorem lineStep_withMasks : (s.withMasks c g e).lineStep = s.lineStep.withMasks c g e := by
  rw [State.lineStep, State.lineStep, lineBegin_withMasks, lineRow_withMasks,
    apply_ite (State.withMasks · c g e)]
  cases s.lineBegin.lineRow with
  | error f => rfl
  | ok t => simp only [Except.map, lineEnd_withMasks]; rfl

end Masks

@[simp] theorem lineStep_genable (s : State) : s.lineStep.genable = s.genable := by
  have unmoved := congrArg State.genable (lineStep_withMasks s s.chipControl s.genable s.denable)
  exact unmoved

@[simp] theorem lineStep_denable (s : State) : s.lineStep.denable = s.denable := by
  have unmoved := congrArg State.denable (lineStep_withMasks s s.chipControl s.genable s.denable)
  exact unmoved

/-- Settles O23: the masks stay out of the line step and of promotion, and every other transaction
takes the status from the status and DATA alone. -/
theorem maskingAppliesOnlyAtReadAndLine : Obligations.MaskingAppliesOnlyAtReadAndLine := by
  unfold Obligations.MaskingAppliesOnlyAtReadAndLine
  intro i s e g t u next next'
  cases i with
  | line =>
    cases next
    cases next'
    have sameStatus := congrArg State.dstatus (lineStep_withMasks s s.chipControl g e)
    exact sameStatus
  | wrVidNstart | wrVidNsize | wrVidDmacntl =>
    cases next
    cases next'
    simp only [promoteOnWrite_dstatus]
  | _ =>
    cases next
    cases next'
    rfl

/-- A state with its own masks but another CHIP_CONTROL differs in CHIP_CONTROL alone. -/
theorem withMasks_restore {t : State} (v : Word) {g : Word} {e : DomainWords}
    (sameGenable : t.genable = g) (sameDenable : t.denable = e) :
    { t.withMasks v g e with chipControl := t.chipControl } = t := by
  subst sameGenable sameDenable
  rfl

theorem lineStep_ignores_chipControl (s : State) (v : Word) :
    { { s with chipControl := v }.lineStep with chipControl := s.lineStep.chipControl }
      = s.lineStep := by
  have sameStep : { s with chipControl := v }.lineStep
      = s.lineStep.withMasks v s.genable s.denable := lineStep_withMasks ..
  rw [sameStep]
  exact withMasks_restore v (lineStep_genable s) (lineStep_denable s)

theorem promoteOnWrite_ignores_chipControl (s : State) (v : Word) :
    { { s with chipControl := v }.promoteOnWrite with chipControl := s.promoteOnWrite.chipControl }
      = s.promoteOnWrite := by
  have samePromotion : { s with chipControl := v }.promoteOnWrite
      = s.promoteOnWrite.withMasks v s.genable s.denable := promoteOnWrite_withMasks ..
  rw [samePromotion]
  exact withMasks_restore v (promoteOnWrite_genable s) (promoteOnWrite_denable s)

/-- Settles O57: the register stays out of the line step and of promotion, and no other transaction
but its own read looks at it. -/
theorem chipControlHasNoEffect : Obligations.ChipControlHasNoEffect := by
  unfold Obligations.ChipControlHasNoEffect
  refine ⟨writes_of_mapped (offset := 0x004#12) rfl rfl fun _ _ => rfl, fun _ _ => rfl, ?_⟩
  intro i s t u v notItsRead next next'
  cases i with
  | rdChipControl => exact absurd rfl notItsRead
  | line =>
    cases next
    cases next'
    exact lineStep_ignores_chipControl s v
  | wrVidNstart data =>
    cases next
    cases next'
    exact promoteOnWrite_ignores_chipControl { s with nstart := data } v
  | wrVidNsize data =>
    cases next
    cases next'
    exact promoteOnWrite_ignores_chipControl { s with nsize := data } v
  | wrVidDmacntl data =>
    cases next
    cases next'
    exact promoteOnWrite_ignores_chipControl { s with dmacntl := data } v
  | _ =>
    cases next
    cases next'
    rfl

/-! ## What keeps a domain pending -/

/-- Every latched status bit stays latched. -/
def KeepsStatus (s t : State) : Prop :=
  ∀ d i, bit (s.dstatus.at d) i = true → bit (t.dstatus.at d) i = true

theorem KeepsStatus.of_eq {s t : State} (same : t.dstatus = s.dstatus) : KeepsStatus s t :=
  fun _ _ latched => same ▸ latched

theorem KeepsStatus.trans {s t u : State} (first : KeepsStatus s t) (second : KeepsStatus t u) :
    KeepsStatus s u :=
  fun d i latched => second d i (first d i latched)

theorem raise_keepsStatus (s : State) (d : Domain) (b : Word) : KeepsStatus s (s.raise d b) := by
  intro e i latched
  rw [raise_at]
  split_ifs with own
  · rw [bit_or, ← own, latched, Bool.true_or]
  · exact latched

theorem hsyncMatch_keepsStatus (s : State) (y : Nat) : KeepsStatus s (s.hsyncMatch y) := by
  rcases hsyncMatch_cases s y with ⟨-, raised⟩ | ⟨-, same⟩
  · exact raised ▸ raise_keepsStatus s _ _
  · exact .of_eq (by rw [same])

theorem lineBegin_keepsStatus (s : State) : KeepsStatus s s.lineBegin := by
  rcases lineBegin_cases s with ⟨-, -, promoted⟩ | ⟨-, same⟩
  · rw [promoted]
    exact hsyncMatch_keepsStatus s.promote s.line
  · rw [same]
    exact hsyncMatch_keepsStatus s s.line

theorem lineRow_keepsStatus {s t : State} (ok : s.lineRow = .ok t) : KeepsStatus s t := by
  obtain ⟨fb, cursor, rfl⟩ := lineRow_ok ok
  exact .of_eq rfl

theorem lineEnd_keepsStatus (s : State) : KeepsStatus s s.lineEnd := by
  rcases lineEnd_cases s with ⟨-, frame⟩ | ⟨-, next⟩
  · have raised : KeepsStatus s ((s.raiseVideo (vsyncSource s.field)).raiseVideo .dma) :=
      (raise_keepsStatus s _ _).trans (raise_keepsStatus _ _ _)
    exact frame ▸ raised
  · exact .of_eq (by rw [next])

theorem lineStep_keepsStatus (s : State) : KeepsStatus s s.lineStep := by
  rcases lineStep_cases s with ⟨-, faulted⟩ | ⟨-, f, -, recorded⟩ | ⟨-, t, row, ended⟩
  · exact .of_eq (by rw [faulted])
  · exact .of_eq (by rw [recorded, recordFault_dstatus])
  · rw [ended]
    exact (lineBegin_keepsStatus s).trans ((lineRow_keepsStatus row).trans (lineEnd_keepsStatus t))

theorem pending_iff_exists_bit (s : State) (d : Domain) :
    pending s d = true ↔ ∃ i, bit (s.dstatus.at d) i = true ∧ bit (s.denable.at d) i = true := by
  simp only [pending_iff, ne_zero_iff_exists_bit, bit_and, Bool.and_eq_true]

theorem KeepsStatus.pending {s t : State} (kept : KeepsStatus s t)
    (sameEnable : t.denable = s.denable) {d : Domain} (isPending : pending s d = true) :
    pending t d = true := by
  obtain ⟨i, latched, enabled⟩ := (pending_iff_exists_bit s d).mp isPending
  exact (pending_iff_exists_bit t d).mpr ⟨i, kept d i latched, sameEnable ▸ enabled⟩

theorem pending_enableSet {s : State} {e : Domain} (d : Domain) (b : Word)
    (isPending : pending s e = true) : pending (s.enableSet d b) e = true := by
  obtain ⟨i, latched, enabled⟩ := (pending_iff_exists_bit s e).mp isPending
  refine (pending_iff_exists_bit _ e).mpr ⟨i, latched, ?_⟩
  rw [enableSet_at]
  split_ifs with own
  · rw [bit_or, ← own, enabled, Bool.true_or]
  · exact enabled

theorem pending_lower_ne (s : State) {d e : Domain} (other : e ≠ d) (b : Word) :
    pending (s.lower d b) e = pending s e := by
  simp only [pending, visible, lower_at, if_neg other, lower_denable]

theorem pending_enableClear_ne (s : State) {d e : Domain} (other : e ≠ d) (b : Word) :
    pending (s.enableClear d b) e = pending s e := by
  simp only [pending, visible, enableClear_at, if_neg other, enableClear_dstatus]

/-- Only the domain that a LOWER or a status clear names can lose its pending. -/
theorem eq_of_lower_ends {s : State} {d e : Domain} {b : Word} (before : pending s e = true)
    (after : pending (s.lower d b) e = false) : e = d := by
  by_contra other
  rw [pending_lower_ne s other, before] at after
  cases after

/-- Only the domain that an enable clear names can lose its pending. -/
theorem eq_of_enableClear_ends {s : State} {d e : Domain} {b : Word} (before : pending s e = true)
    (after : pending (s.enableClear d b) e = false) : e = d := by
  by_contra other
  rw [pending_enableClear_ne s other, before] at after
  cases after

/-- Settles O56: raises, the line step and enable sets keep every pending domain, the clears touch
one domain, and what is left does not touch status or enables. -/
theorem onlyClearsAcknowledge : Obligations.OnlyClearsAcknowledge := by
  unfold Obligations.OnlyClearsAcknowledge
  refine ⟨writes_of_mapped (offset := 0x108#12) rfl rfl fun _ _ => rfl, ?_⟩
  intro i s t d next before after
  have kept_absurd {P : Prop} (kept : pending t d = true) : P := by simp [kept] at after
  cases i with
  | reset => exact .inl rfl
  | wrVidIntenC data =>
    cases next
    cases eq_of_enableClear_ends before after
    exact .inr (.inl ⟨data, by simp⟩)
  | wrVidIntstatC data | lowerAudio data | lowerDevio data | lowerRio data | lowerTimer data =>
    cases next
    cases eq_of_lower_ends before after
    exact .inr (.inl ⟨data, by simp⟩)
  | wrDomStatusC c data =>
    cases next
    exact .inr (.inr ⟨c, data, eq_of_lower_ends before after, .inl rfl⟩)
  | wrDomEnableC c data =>
    cases next
    exact .inr (.inr ⟨c, data, eq_of_enableClear_ends before after, .inr rfl⟩)
  | wrVidIntstatS | wrDomStatusS | raiseAudio | raiseDevio | raiseRio | raiseTimer =>
    cases next
    exact kept_absurd ((raise_keepsStatus s _ _).pending rfl before)
  | wrVidIntenS | wrDomEnableS =>
    cases next
    exact kept_absurd (pending_enableSet _ _ before)
  | line =>
    cases next
    exact kept_absurd ((lineStep_keepsStatus s).pending (lineStep_denable s) before)
  | wrVidNstart | wrVidNsize | wrVidDmacntl =>
    cases next
    exact kept_absurd ((KeepsStatus.of_eq (promoteOnWrite_dstatus _)).pending
      (promoteOnWrite_denable _) before)
  | _ =>
    cases next
    exact kept_absurd before

end Sys2Proof.Machine

/-! PROOFS. The video registers (41 R141 to R173). Each register is one row of the map of 30 R85. The
current descriptor and the cursor have one writer among the register transactions, PromoteOnWrite,
and `promoteOnWrite_current` says what it makes of them. -/

namespace Sys2Proof.Machine

/-! ## The current descriptor and the cursor -/

/-- The current descriptor, its validity and the cursor of `t` are those of `s`. -/
def SameCurrent (s t : State) : Prop :=
  t.cstart = s.cstart ∧ t.csize = s.csize ∧ t.cvalid = s.cvalid ∧ t.cursor = s.cursor

/-- The current descriptor and the cursor are those that a promotion of the next descriptor gives. -/
def CurrentPromoted (t : State) : Prop :=
  t.cstart = t.nstart ∧ t.csize = t.nsize ∧ t.cvalid = true
    ∧ t.cursor = cursorInit t.cfg.cursorInit t.nstart t.nsize (window t).hsize

/-- A promotion leaves the raw window registers, so the window that gave its cursor is still the
window after it. -/
theorem window_promote (s : State) : window s.promote = window s := by
  simp only [window, promote_hstartRaw, promote_hsizeRaw, promote_vstartRaw, promote_vsizeRaw,
    promote_cfg]

theorem promote_currentPromoted (s : State) : CurrentPromoted s.promote :=
  ⟨rfl, rfl, rfl, by rw [window_promote]; rfl⟩

/-- After a write that left them alone, PromoteOnWrite leaves the current descriptor and the cursor
too, or NVF is 1 and it promotes. -/
theorem promoteOnWrite_current {s w : State} (stored : SameCurrent s w) :
    SameCurrent s w.promoteOnWrite
      ∨ (nvf w.promoteOnWrite = true ∧ CurrentPromoted w.promoteOnWrite) := by
  rcases promoteOnWrite_cases w with ⟨promotes, promoted⟩ | ⟨-, unpromoted⟩
  · rw [promoted]
    exact .inr ⟨promotes, promote_currentPromoted w⟩
  · rw [unpromoted]
    exact .inl stored

/-- Settles O9: the three writes that end in PromoteOnWrite are the only ones that reach the current
descriptor, and each stores a register that is no part of it first. -/
theorem onlyPromotionChangesCurrentDescriptor :
    Obligations.OnlyPromotionChangesCurrentDescriptor := by
  unfold Obligations.OnlyPromotionChangesCurrentDescriptor
  intro i s t next notLine notReset
  cases i with
  | line => exact absurd rfl notLine
  | reset => exact absurd rfl notReset
  | wrVidNstart data | wrVidNsize data | wrVidDmacntl data =>
    cases next
    exact (promoteOnWrite_current ⟨rfl, rfl, rfl, rfl⟩).imp_right
      fun promoted => ⟨⟨data, by simp⟩, promoted⟩
  | _ =>
    cases next
    exact .inl ⟨rfl, rfl, rfl, rfl⟩

/-! ## The register commands -/

/-- Settles O4: fourteen rows of the register map. -/
theorem videoReadsAnswer : Obligations.VideoReadsAnswer := by
  unfold Obligations.VideoReadsAnswer
  exact ⟨reads_of_mapped (offset := 0x300#12) rfl rfl fun _ => rfl,
    reads_of_mapped (offset := 0x304#12) rfl rfl fun _ => rfl,
    reads_of_mapped (offset := 0x308#12) rfl rfl fun _ => rfl,
    reads_of_mapped (offset := 0x30C#12) rfl rfl fun _ => rfl,
    reads_of_mapped (offset := 0x310#12) rfl rfl fun _ => rfl,
    reads_of_mapped (offset := 0x314#12) rfl rfl fun _ => rfl,
    reads_of_mapped (offset := 0x318#12) rfl rfl fun _ => rfl,
    reads_of_mapped (offset := 0x31C#12) rfl rfl fun _ => rfl,
    reads_of_mapped (offset := 0x320#12) rfl rfl fun _ => rfl,
    reads_of_mapped (offset := 0x324#12) rfl rfl fun _ => rfl,
    reads_of_mapped (offset := 0x328#12) rfl rfl fun _ => rfl,
    reads_of_mapped (offset := 0x32C#12) rfl rfl fun _ => rfl,
    reads_of_mapped (offset := 0x330#12) rfl rfl fun _ => rfl,
    reads_of_mapped (offset := 0x334#12) rfl rfl fun _ => rfl⟩

/-- A fixed row whose write is read-only: its command, and the record that the write appends. -/
theorem writes_of_readOnly {offset : Offset} {slot : Slot} (aligned : wordAligned offset = true)
    (mapped : registerMap.lookup offset = some slot)
    (logs : ∀ data s,
      exec (writeOf data slot) s = .next (s.logEvent (.readOnlyWrite offset data))) :
    Writes (accessCmd 0b01#2 0b00#2 offset) (fun data => writeOf data slot)
      (fun data s => s.logEvent (.readOnlyWrite offset data)) :=
  writes_of_mapped aligned mapped logs

/-- Settles O6: the rows of the current descriptor, the cursor and the line counter are read-only. -/
theorem readOnlyVideoWritesOnlyLog : Obligations.ReadOnlyVideoWritesOnlyLog := by
  unfold Obligations.ReadOnlyVideoWritesOnlyLog
  exact ⟨writes_of_readOnly (offset := 0x300#12) rfl rfl fun _ _ => rfl,
    writes_of_readOnly (offset := 0x304#12) rfl rfl fun _ _ => rfl,
    writes_of_readOnly (offset := 0x308#12) rfl rfl fun _ _ => rfl,
    writes_of_readOnly (offset := 0x334#12) rfl rfl fun _ _ => rfl⟩

end Sys2Proof.Machine

/-! PROOFS. The converter (42 R210 to R218). Shifts and divisions by a positive constant keep the
order, so the range of a term is read off at the two ends of its byte. -/

namespace Sys2Proof.Machine

/-! ## The terms -/

theorem byte_toNat_le (c : Byte) : (c.toNat : Int) ≤ 255 := by
  have := c.isLt
  omega

theorem asr_eq_fdiv (a : Int) : asr a 8 = Int.fdiv a 256 :=
  (Int.fdiv_eq_ediv_of_nonneg a (by decide)).symm

theorem asr_mono {a b : Int} (le : a ≤ b) (n : Nat) : asr a n ≤ asr b n :=
  Int.ediv_le_ediv (by positivity) le

theorem truncDiv_mono {a b c : Int} (pos : 0 < c) (le : a ≤ b) : truncDiv a c ≤ truncDiv b c :=
  Int.tdiv_le_tdiv pos le

theorem lumaTerm_default_range (y : Byte) :
    -18 ≤ lumaTerm .default y ∧ lumaTerm .default y ≤ 279 := by
  have top := byte_toNat_le y
  have least : ((0 - 16) * 256 + 128 : Int) ≤ ((y.toNat : Int) - 16) * 256 + 128 := by omega
  have most : ((y.toNat : Int) - 16) * 256 + 128 ≤ (255 - 16) * 256 + 128 := by omega
  exact ⟨truncDiv_mono (c := 219) (by decide) least, truncDiv_mono (c := 219) (by decide) most⟩

theorem chroma_default_range (c : Byte) : -128 ≤ chroma .default c ∧ chroma .default c ≤ 127 := by
  have top := byte_toNat_le c
  simp only [chroma, CscConstants.default]
  omega

theorem redTerm_default_range (c : Byte) :
    -179 ≤ redTerm .default c ∧ redTerm .default c ≤ 178 := by
  obtain ⟨least, most⟩ := chroma_default_range c
  have low : (0x166 * -128 + 128 : Int) ≤ 0x166 * chroma .default c + 128 := by omega
  have high : 0x166 * chroma .default c + 128 ≤ (0x166 * 127 + 128 : Int) := by omega
  exact ⟨asr_mono low 8, asr_mono high 8⟩

theorem blueTerm_default_range (c : Byte) :
    -227 ≤ blueTerm .default c ∧ blueTerm .default c ≤ 226 := by
  obtain ⟨least, most⟩ := chroma_default_range c
  have low : (0x1C7 * -128 + 128 : Int) ≤ 0x1C7 * chroma .default c + 128 := by omega
  have high : 0x1C7 * chroma .default c + 128 ≤ (0x1C7 * 127 + 128 : Int) := by omega
  exact ⟨asr_mono low 8, asr_mono high 8⟩

/-- Settles O36: `asr` by 8 is the floor of the division by 256, and each range is the terms at the
least and the greatest byte. -/
theorem converterTermsStayInRange : Obligations.ConverterTermsStayInRange := by
  unfold Obligations.ConverterTermsStayInRange
  refine ⟨fun k y cb cr => ⟨fun _ => rfl, rfl, asr_eq_fdiv _, asr_eq_fdiv _, asr_eq_fdiv _⟩, ?_⟩
  exact ⟨lumaTerm_default_range, by decide, by decide, chroma_default_range,
    redTerm_default_range, blueTerm_default_range⟩

/-! ## The channels -/

/-- A clamped value fits in the 8 bits of its channel. -/
theorem channel_toNat (v : Int) : ((channel v).toNat : Int) = min (max v 0) 255 := by
  simp only [channel, clamp, BitVec.toNat_ofNat]
  omega

/-- Settles O37: each channel is its sum clamped, and the round numbers are three evaluations. -/
theorem converterClampsEveryChannel : Obligations.ConverterClampsEveryChannel := by
  unfold Obligations.ConverterClampsEveryChannel
  exact ⟨fun k y cb cr => ⟨channel_toNat _, channel_toNat _, channel_toNat _⟩,
    by decide, by decide, by decide⟩

/-! ## Pair words -/

/-- Unpack takes apart what the four bytes were put together to (42 R210). -/
theorem unpack_append (y1 cb y2 cr : Byte) :
    unpack (y1 ++ (cb ++ (y2 ++ cr))) = ⟨y1, cb, y2, cr⟩ := by
  simp only [unpack, PairSamples.mk.injEq]
  refine ⟨BitVec.extractLsb'_append_eq_left, ?_, ?_, ?_⟩
  · exact (BitVec.extractLsb'_append_eq_of_add_le (by decide)).trans
      BitVec.extractLsb'_append_eq_left
  · exact (BitVec.extractLsb'_append_eq_of_add_le (by decide)).trans
      ((BitVec.extractLsb'_append_eq_of_add_le (by decide)).trans BitVec.extractLsb'_append_eq_left)
  · exact (BitVec.extractLsb'_append_eq_of_add_le (by decide)).trans
      ((BitVec.extractLsb'_append_eq_of_add_le (by decide)).trans BitVec.extractLsb'_append_eq_right)

/-- Settles O38: BlankPair is put together from four bytes, which Unpack gives back. -/
theorem blankPairUnpacksToTheBlankingColor : Obligations.BlankPairUnpacksToTheBlankingColor := by
  unfold Obligations.BlankPairUnpacksToTheBlankingColor
  exact ⟨fun b => ⟨rfl, unpack_append ..⟩, unpack_append⟩

end Sys2Proof.Machine

/-! PROOFS. The Active Window (42 R220 to R224). Clamp1 gives a `Clamped` pair and leaves one as it is
(`clamp1_clamped`, `clamp1_of_clamped`); the window is two such pairs. -/

namespace Sys2Proof.Machine

/-! ## Clamp1 -/

/-- An even size, and an aligned start from which that size stays within the dimension. -/
structure Clamped (dim align start size : Nat) : Prop where
  even : size % 2 = 0
  aligned : start % align = 0
  fits : start + size ≤ dim

theorem sub_mod_self_mod (n k : Nat) : (n - n % k) % k = 0 :=
  Nat.mod_eq_zero_of_dvd (Nat.dvd_sub_mod n)

theorem clamp1_clamped (start size dim align : Nat) :
    Clamped dim align (clamp1 start size dim align).1 (clamp1 start size dim align).2 := by
  simp only [clamp1]
  split_ifs with passesEdge
  · exact ⟨sub_mod_self_mod _ 2, sub_mod_self_mod _ align, by dsimp only; omega⟩
  · exact ⟨sub_mod_self_mod _ 2, sub_mod_self_mod _ align, by dsimp only; omega⟩

theorem clamp1_of_clamped {start size dim align : Nat} (ok : Clamped dim align start size) :
    clamp1 start size dim align = (start, size) := by
  obtain ⟨even, aligned, fits⟩ := ok
  have sameSize : min size dim - min size dim % 2 = size := by omega
  simp only [clamp1, sameSize, aligned, Nat.sub_zero, if_neg (Nat.not_lt.mpr fits)]

/-- Settles O33: what Clamp1 gives is clamped, and Clamp1 leaves what is clamped. -/
theorem clampIsIdempotentAndInBounds : Obligations.ClampIsIdempotentAndInBounds := by
  unfold Obligations.ClampIsIdempotentAndInBounds
  intro start size dim align
  have clamped := clamp1_clamped start size dim align
  exact ⟨clamped.even, by have := clamped.fits; omega, clamped.aligned, clamped.fits,
    clamp1_of_clamped clamped⟩

/-! ## The effective window -/

theorem window_horizontal (s : State) :
    Clamped s.cfg.screenWidth s.cfg.hAlign (window s).hstart (window s).hsize :=
  clamp1_clamped ..

theorem window_vertical (s : State) :
    Clamped s.cfg.screenHeight s.cfg.vAlign (window s).vstart (window s).vsize :=
  clamp1_clamped ..

theorem contains_iff (w : ActiveWindow) (x y : Nat) :
    w.contains x y = true
      ↔ (w.vstart ≤ y ∧ y < w.vstart + w.vsize) ∧ w.hstart ≤ x ∧ x < w.hstart + w.hsize := by
  simp only [ActiveWindow.contains, Bool.and_eq_true, decide_eq_true_eq, and_assoc]

theorem contains_eq_false_iff (w : ActiveWindow) (x y : Nat) :
    w.contains x y = false
      ↔ ¬ ((w.vstart ≤ y ∧ y < w.vstart + w.vsize) ∧ w.hstart ≤ x ∧ x < w.hstart + w.hsize) := by
  rw [← contains_iff, Bool.not_eq_true]

theorem even_of_powerOfTwo {n : Nat} (power : PowerOfTwo n) (two : 2 ≤ n) : 2 ∣ n := by
  have notZero : n.log2 ≠ 0 := by
    intro zero
    rw [PowerOfTwo, zero] at power
    omega
  exact power ▸ dvd_pow_self 2 notZero

theorem window_hstart_even {s : State} (power : PowerOfTwo s.cfg.hAlign)
    (two : 2 ≤ s.cfg.hAlign) : (window s).hstart % 2 = 0 :=
  Nat.mod_eq_zero_of_dvd ((even_of_powerOfTwo power two).trans
    (Nat.dvd_of_mod_eq_zero (window_horizontal s).aligned))

/-- Settles O34: between an even position and the next one no edge of the window lies where both
edges are even; where the start is odd, the window begins with the second pixel of a pair. -/
theorem alignedPairsAreWhollyInsideOrOutside :
    Obligations.AlignedPairsAreWhollyInsideOrOutside := by
  unfold Obligations.AlignedPairsAreWhollyInsideOrOutside
  intro s x y wf
  obtain ⟨-, power, -⟩ := wf
  have sizeEven := (window_horizontal s).even
  refine ⟨sizeEven, window_hstart_even power, fun two xEven => ?_, fun _ startOdd => ?_⟩
  · have startEven := window_hstart_even power two
    simp only [contains_iff, contains_eq_false_iff]
    omega
  · simp only [contains_iff, contains_eq_false_iff]
    omega

end Sys2Proof.Machine

/-! PROOFS. The line step and the frame (42 R190 to R203). Of a line step that records no fault
`lineStep_noFault` gives the shape; what it leaves, where it goes and which sources it raises follow
once each, and a frame is an induction on its lines. -/

namespace Sys2Proof.Machine

/-! ## A line step that records no fault -/

/-- The state with another frame and cursor, which is all that a row changes (42 R193). -/
def State.withRow (s : State) (fb : Frame) (cursor : Word) : State :=
  { s with fb := fb, cursor := cursor }

section Row
variable (s : State) (fb : Frame) (cursor : Word)

@[simp] theorem withRow_cfg : (s.withRow fb cursor).cfg = s.cfg := rfl
@[simp] theorem withRow_output : (s.withRow fb cursor).output = s.output := rfl
@[simp] theorem withRow_dstatus : (s.withRow fb cursor).dstatus = s.dstatus := rfl
@[simp] theorem withRow_hintline : (s.withRow fb cursor).hintline = s.hintline := rfl
@[simp] theorem withRow_line : (s.withRow fb cursor).line = s.line := rfl
@[simp] theorem withRow_field : (s.withRow fb cursor).field = s.field := rfl
@[simp] theorem withRow_fb : (s.withRow fb cursor).fb = fb := rfl
@[simp] theorem withRow_faults : (s.withRow fb cursor).faults = s.faults := rfl

end Row

theorem lineRow_withRow {s t : State} (ok : s.lineRow = .ok t) :
    ∃ fb cursor, t = s.withRow fb cursor :=
  lineRow_ok ok

theorem recordFault_faults_ne_nil (s : State) (f : FaultRecord) : (s.recordFault f).faults ≠ [] := by
  rw [recordFault_faults]
  split_ifs with listed
  · exact List.ne_nil_of_mem listed
  · simp

/-- A line step records no fault where its row is produced, and then it ends over that row. -/
theorem lineStep_noFault {s : State} (noFault : s.lineStep.faults = []) :
    ∃ fb cursor, s.lineBegin.lineRow = .ok (s.lineBegin.withRow fb cursor)
      ∧ s.lineStep = (s.lineBegin.withRow fb cursor).lineEnd := by
  rcases lineStep_cases s with ⟨faulted, same⟩ | ⟨-, f, -, recorded⟩ | ⟨-, t, row, ended⟩
  · exact absurd (same ▸ noFault) faulted
  · exact absurd (recorded ▸ noFault) (recordFault_faults_ne_nil s f)
  · obtain ⟨fb, cursor, rfl⟩ := lineRow_withRow row
    exact ⟨fb, cursor, row, ended⟩

@[simp] theorem lineEnd_faults (s : State) : s.lineEnd.faults = s.faults := by
  rcases lineEnd_cases s with ⟨-, frame⟩ | ⟨-, next⟩
  · rw [frame, frameEnd_faults]
  · rw [next]

theorem lineStep_faults_of_row {s t : State} (clean : s.faults = [])
    (row : s.lineBegin.lineRow = .ok t) :
    s.lineStep.faults = [] := by
  rcases lineStep_cases s with ⟨faulted, -⟩ | ⟨-, f, error, -⟩ | ⟨-, u, row', ended⟩
  · exact absurd clean faulted
  · cases row.symm.trans error
  · obtain ⟨fb, cursor, rfl⟩ := lineRow_withRow row'
    rw [ended, lineEnd_faults, withRow_faults, lineBegin_faults, clean]

theorem clean_of_lineStep_clean {s : State} (noFault : s.lineStep.faults = []) : s.faults = [] := by
  rcases lineStep_cases s with ⟨-, same⟩ | ⟨clean, -⟩ | ⟨clean, -⟩
  · rwa [same] at noFault
  · exact clean
  · exact clean

/-! ## The registers a line step reads -/

/-- The configuration and the registers that direct scanout are the same. -/
structure SameSetup (s t : State) : Prop where
  cfg : t.cfg = s.cfg
  dmacntl : t.dmacntl = s.dmacntl
  fcntl : t.fcntl = s.fcntl
  hintline : t.hintline = s.hintline
  window : window t = window s

theorem SameSetup.refl (s : State) : SameSetup s s := ⟨rfl, rfl, rfl, rfl, rfl⟩

theorem SameSetup.trans {s t u : State} (first : SameSetup s t) (second : SameSetup t u) :
    SameSetup s u :=
  ⟨second.cfg.trans first.cfg, second.dmacntl.trans first.dmacntl, second.fcntl.trans first.fcntl,
    second.hintline.trans first.hintline, second.window.trans first.window⟩

theorem lineBegin_sameSetup (s : State) : SameSetup s s.lineBegin :=
  ⟨by simp, by simp, by simp, by simp, by simp [Machine.window]⟩

theorem lineEnd_sameSetup (s : State) : SameSetup s s.lineEnd := by
  rcases lineEnd_cases s with ⟨-, frame⟩ | ⟨-, next⟩
  · rw [frame]; exact ⟨rfl, rfl, rfl, rfl, rfl⟩
  · rw [next]; exact ⟨rfl, rfl, rfl, rfl, rfl⟩

theorem lineStep_sameSetup (s : State) : SameSetup s s.lineStep := by
  rcases lineStep_cases s with ⟨-, same⟩ | ⟨-, f, -, recorded⟩ | ⟨-, t, row, ended⟩
  · rw [same]; exact .refl s
  · rw [recorded]; exact ⟨rfl, rfl, rfl, rfl, rfl⟩
  · obtain ⟨fb, cursor, rfl⟩ := lineRow_withRow row
    have rowKeeps : SameSetup s.lineBegin (s.lineBegin.withRow fb cursor) :=
      ⟨rfl, rfl, rfl, rfl, rfl⟩
    rw [ended]
    exact ((lineBegin_sameSetup s).trans rowKeeps).trans (lineEnd_sameSetup _)

/-! ## The line, the field and what is published -/

theorem totalLines_pos {c : Config} (wf : c.Wf) : 0 < c.totalLines := by
  obtain ⟨⟨-, -, height, lines, -⟩, -⟩ := wf
  omega

/-- The end of a line step, where there are lines at all. -/
theorem lineEnd_of_pos {s : State} (pos : 0 < s.cfg.totalLines) :
    (s.line + 1 = s.cfg.totalLines ∧ s.lineEnd = s.frameEnd)
      ∨ (s.line + 1 ≠ s.cfg.totalLines ∧ s.lineEnd = { s with line := s.line + 1 }) := by
  rcases lineEnd_cases s with ⟨last, frame⟩ | ⟨notLast, next⟩
  · exact .inl ⟨by omega, frame⟩
  · exact .inr ⟨by omega, next⟩

/-- A line step goes on to the next line of the frame, or ends the frame after the last. -/
theorem lineStep_progress {s : State} (pos : 0 < s.cfg.totalLines)
    (noFault : s.lineStep.faults = []) :
    (s.line + 1 = s.cfg.totalLines ∧ s.lineStep.line = 0 ∧ s.lineStep.field = s.field.flip
        ∧ s.lineStep.output = s.output ++ [.frameDone s.lineStep.fb])
      ∨ (s.line + 1 ≠ s.cfg.totalLines ∧ s.lineStep.line = s.line + 1 ∧ s.lineStep.field = s.field
        ∧ s.lineStep.output = s.output) := by
  obtain ⟨fb, cursor, -, ended⟩ := lineStep_noFault noFault
  rw [ended]
  rcases lineEnd_of_pos (s := s.lineBegin.withRow fb cursor) (by simpa using pos)
    with ⟨last, frame⟩ | ⟨notLast, next⟩
  · rw [frame]
    exact .inl ⟨by simpa using last, by simp⟩
  · rw [next]
    exact .inr ⟨by simpa using notLast, by simp⟩

/-! ## The video sources -/

/-- Whether the line step raises a source: HSYNC on the line of VID_HINTLINE, and at the end of a frame
DMA and the VSYNC of the field (42 R192, R199, R200). -/
def State.raises (s : State) : VideoSource → Bool
  | .hsync => decide (BitVec.ofNat 32 s.line = s.hintline)
  | .dma => decide (s.line + 1 = s.cfg.totalLines)
  | .vsyncEven => decide (s.line + 1 = s.cfg.totalLines) && decide (s.field = .even)
  | .vsyncOdd => decide (s.line + 1 = s.cfg.totalLines) && decide (s.field = .odd)

theorem vbit_at_injective {c : Config} (ok : c.BitsOk) : Function.Injective c.vbit.at := by
  obtain ⟨-, distinct⟩ := ok
  have asMap : ([.dma, .hsync, .vsyncOdd, .vsyncEven].map c.vbit.at).Nodup := distinct
  intro v w same
  exact List.inj_on_of_nodup_map asMap (by cases v <;> simp) (by cases w <;> simp) same

theorem bit_raiseVideo (s : State) (v : VideoSource) (b : Fin 32) :
    bit (s.raiseVideo v).dstatus.video b = true
      ↔ bit s.dstatus.video b = true ∨ s.cfg.vbit.at v = b := by
  have raised : (s.raiseVideo v).dstatus.video = s.dstatus.video ||| mask (s.cfg.vbit.at v) := rfl
  rw [raised, bit_or, bit_mask, Bool.or_eq_true, decide_eq_true_eq]

theorem raiseVideo_at_ne (s : State) (v : VideoSource) {d : Domain} (other : d ≠ .video) :
    (s.raiseVideo v).dstatus.at d = s.dstatus.at d :=
  (raise_at s .video d _).trans (if_neg other)

@[simp] theorem lineBegin_dstatus (s : State) :
    s.lineBegin.dstatus = (s.hsyncMatch s.line).dstatus := by
  rcases lineBegin_cases s with ⟨-, -, promoted⟩ | ⟨-, same⟩
  · rw [promoted, State.hsyncMatch, State.hsyncMatch, apply_ite State.dstatus,
      apply_ite State.dstatus]
    rfl
  · rw [same]

theorem bit_hsyncMatch (s : State) (b : Fin 32) :
    bit (s.hsyncMatch s.line).dstatus.video b = true
      ↔ bit s.dstatus.video b = true ∨ (s.raises .hsync = true ∧ s.cfg.vbit.at .hsync = b) := by
  rcases hsyncMatch_cases s s.line with ⟨onLine, raised⟩ | ⟨offLine, same⟩
  · rw [raised, bit_raiseVideo]
    simp [State.raises, onLine]
  · rw [same]
    simp [State.raises, offLine]

theorem exists_source_iff (p : VideoSource → Prop) :
    (∃ v, p v) ↔ p .hsync ∨ p .vsyncEven ∨ p .vsyncOdd ∨ p .dma := by
  constructor
  · rintro ⟨v, holds⟩
    cases v <;> simp [holds]
  · rintro (holds | holds | holds | holds) <;> exact ⟨_, holds⟩

theorem bit_frameEnd (s : State) (b : Fin 32) :
    bit s.frameEnd.dstatus.video b = true
      ↔ (bit s.dstatus.video b = true ∨ s.cfg.vbit.at (vsyncSource s.field) = b)
        ∨ s.cfg.vbit.at .dma = b := by
  rw [frameEnd_dstatus, bit_raiseVideo, bit_raiseVideo]
  rfl

/-- The end of a line step raises every source that the step raises but HSYNC. -/
theorem bit_lineEnd {s : State} (pos : 0 < s.cfg.totalLines) (b : Fin 32) :
    bit s.lineEnd.dstatus.video b = true
      ↔ bit s.dstatus.video b = true ∨ ∃ v, v ≠ .hsync ∧ s.raises v = true ∧ s.cfg.vbit.at v = b := by
  rw [exists_source_iff]
  rcases lineEnd_of_pos pos with ⟨last, frame⟩ | ⟨notLast, next⟩
  · rw [frame, bit_frameEnd]
    cases onField : s.field <;> simp [State.raises, last, onField, vsyncSource, or_assoc]
  · rw [next]
    simp [State.raises, notLast]

/-- A bit of the video status is 1 after a line step exactly where it was 1 or a source the step raises
has it. -/
theorem bit_lineStep {s : State} (pos : 0 < s.cfg.totalLines) (noFault : s.lineStep.faults = [])
    (b : Fin 32) :
    bit s.lineStep.dstatus.video b = true
      ↔ bit s.dstatus.video b = true ∨ ∃ v, s.raises v = true ∧ s.cfg.vbit.at v = b := by
  obtain ⟨fb, cursor, -, ended⟩ := lineStep_noFault noFault
  have sameSources (v : VideoSource) :
      (s.lineBegin.withRow fb cursor).raises v = s.raises v := by
    cases v <;> simp [State.raises]
  rw [ended, bit_lineEnd (by simpa using pos), withRow_dstatus, lineBegin_dstatus, bit_hsyncMatch]
  simp [sameSources, exists_source_iff, or_assoc]

theorem hsyncMatch_at_ne (s : State) (y : Nat) {d : Domain} (other : d ≠ .video) :
    (s.hsyncMatch y).dstatus.at d = s.dstatus.at d := by
  rcases hsyncMatch_cases s y with ⟨-, raised⟩ | ⟨-, same⟩
  · rw [raised, raiseVideo_at_ne s _ other]
  · rw [same]

theorem lineEnd_at_ne (s : State) {d : Domain} (other : d ≠ .video) :
    s.lineEnd.dstatus.at d = s.dstatus.at d := by
  rcases lineEnd_cases s with ⟨-, frame⟩ | ⟨-, next⟩
  · rw [frame, frameEnd_dstatus, raiseVideo_at_ne _ _ other, raiseVideo_at_ne _ _ other]
  · rw [next]

theorem lineStep_at_ne {s : State} (noFault : s.lineStep.faults = []) {d : Domain}
    (other : d ≠ .video) : s.lineStep.dstatus.at d = s.dstatus.at d := by
  obtain ⟨fb, cursor, -, ended⟩ := lineStep_noFault noFault
  rw [ended, lineEnd_at_ne _ other, withRow_dstatus, lineBegin_dstatus, hsyncMatch_at_ne s _ other]

/-- The bit of a source is raised exactly where the line step raises the source, as VBIT is injective. -/
theorem bit_lineStep_source {s : State} (wf : s.cfg.Wf) (noFault : s.lineStep.faults = [])
    (v : VideoSource) :
    bit s.lineStep.dstatus.video (s.cfg.vbit.at v)
      = (bit s.dstatus.video (s.cfg.vbit.at v) || s.raises v) := by
  obtain ⟨-, -, -, bitsOk, -⟩ := id wf
  rw [Bool.eq_iff_iff, bit_lineStep (totalLines_pos wf) noFault]
  simp [(vbit_at_injective bitsOk).eq_iff]

/-- Settles O44: the bits of the four sources are those that the step raises, and no source has any
other bit. -/
theorem lineStepRaisesItsVideoSources : Obligations.LineStepRaisesItsVideoSources := by
  unfold Obligations.LineStepRaisesItsVideoSources
  rintro s t wf - ⟨⟩ noFault
  have source := bit_lineStep_source wf noFault
  refine ⟨source .hsync, source .dma, source .vsyncEven, source .vsyncOdd, fun b unowned => ?_,
    fun d other => lineStep_at_ne noFault other⟩
  rw [Bool.eq_iff_iff, bit_lineStep (totalLines_pos wf) noFault]
  simp [unowned]

/-! ## Frames -/

theorem lines_succ (n : Nat) (s : State) : s.lines (n + 1) = (s.lines n).lineStep := by
  induction n generalizing s with
  | zero => rfl
  | succ n ih => exact ih s.lineStep

theorem clean_of_lines_succ_clean {s : State} {n : Nat} (noFault : (s.lines (n + 1)).faults = []) :
    (s.lines n).faults = [] :=
  clean_of_lineStep_clean (lines_succ n s ▸ noFault)

theorem lines_sameSetup (s : State) (n : Nat) : SameSetup s (s.lines n) := by
  induction n with
  | zero => exact .refl s
  | succ n ih => exact lines_succ n s ▸ ih.trans (lineStep_sameSetup _)

/-- Before its last line a frame stands at the line of the steps taken, in the same field, with nothing
published. -/
theorem lines_progress {s : State} (start : s.line = 0) {n : Nat} (inFrame : n < s.cfg.totalLines)
    (noFault : (s.lines n).faults = []) :
    (s.lines n).line = n ∧ (s.lines n).field = s.field ∧ (s.lines n).output = s.output := by
  induction n with
  | zero => exact ⟨start, rfl, rfl⟩
  | succ n ih =>
    obtain ⟨line, field, output⟩ := ih (by omega) (clean_of_lines_succ_clean noFault)
    have sameCfg := (lines_sameSetup s n).cfg
    rw [lines_succ] at noFault ⊢
    rcases lineStep_progress (by rw [sameCfg]; omega) noFault with
      ⟨last, -⟩ | ⟨-, line', field', output'⟩
    · rw [line, sameCfg] at last
      omega
    · exact ⟨by rw [line', line], field'.trans field, output'.trans output⟩

/-- HSYNC is matched against the number of the step, as 32 bits hold every line of a frame. -/
theorem bit_hsync_lines {s : State} (wf : s.cfg.Wf) (start : s.line = 0) {n : Nat}
    (inFrame : n ≤ s.cfg.totalLines) (noFault : (s.lines n).faults = []) :
    bit (s.lines n).dstatus.video s.cfg.vbit.hsync = true
      ↔ bit s.dstatus.video s.cfg.vbit.hsync = true ∨ s.hintline.toNat < n := by
  induction n with
  | zero => simp [State.lines]
  | succ n ih =>
    have clean := clean_of_lines_succ_clean noFault
    have ih := ih (by omega) clean
    obtain ⟨line, -⟩ := lines_progress start (by omega) clean
    have same := lines_sameSetup s n
    obtain ⟨⟨-, -, -, -, fits⟩, -⟩ := id wf
    have matched : BitVec.ofNat 32 n = s.hintline ↔ s.hintline.toNat = n := by
      rw [← BitVec.toNat_inj, BitVec.toNat_ofNat, Nat.mod_eq_of_lt (by omega), eq_comm]
    have source := bit_lineStep_source (same.cfg ▸ wf) (lines_succ n s ▸ noFault) .hsync
    rw [← lines_succ, same.cfg, VideoBits.at, State.raises, line, same.hintline] at source
    rw [source, Bool.or_eq_true, ih, decide_eq_true_eq, matched, Nat.lt_succ_iff_lt_or_eq, or_assoc]

/-- Settles O47: the step clause is the source's own, and along a frame the line is the number of the
step. -/
theorem hsyncFiresExactlyOnItsLine : Obligations.HsyncFiresExactlyOnItsLine := by
  unfold Obligations.HsyncFiresExactlyOnItsLine
  constructor
  · rintro s t wf - ⟨⟩ noFault
    exact bit_lineStep_source wf noFault .hsync
  · intro s n wf start _ low inFrame noFault
    simp [bit_hsync_lines wf start inFrame noFault, low]

/-- The last step of a frame, and the state it is taken from. -/
theorem lines_total {s : State} (wf : s.cfg.Wf) (start : s.line = 0)
    (noFault : (s.lines s.cfg.totalLines).faults = []) :
    ∃ u, s.lines s.cfg.totalLines = u.lineStep ∧ SameSetup s u ∧ u.line + 1 = u.cfg.totalLines
      ∧ u.field = s.field ∧ u.output = s.output := by
  obtain ⟨k, total⟩ := Nat.exists_eq_add_one.mpr (totalLines_pos wf)
  rw [total] at noFault ⊢
  obtain ⟨line, field, output⟩ :=
    lines_progress start (by omega) (clean_of_lines_succ_clean noFault)
  have same := lines_sameSetup s k
  exact ⟨s.lines k, lines_succ k s, same, by rw [line, same.cfg, total], field, output⟩

/-- What the last line step of a frame does beside its row. -/
def FrameEnded (s t : State) : Prop :=
  t.line = 0 ∧ t.field = s.field.flip ∧ t.output = s.output ++ [.frameDone t.fb]
    ∧ bit t.dstatus.video s.cfg.vbit.dma = true
    ∧ bit t.dstatus.video (s.cfg.vbit.at (vsyncSource s.field)) = true

theorem raises_of_last {s : State} (last : s.line + 1 = s.cfg.totalLines) :
    s.raises .dma = true ∧ s.raises (vsyncSource s.field) = true := by
  cases onField : s.field <;> simp [State.raises, last, onField, vsyncSource]

theorem lineStep_last {s : State} (wf : s.cfg.Wf) (noFault : s.lineStep.faults = [])
    (last : s.line + 1 = s.cfg.totalLines) : FrameEnded s s.lineStep := by
  rcases lineStep_progress (totalLines_pos wf) noFault with ⟨-, line, field, output⟩ | ⟨notLast, -⟩
  · obtain ⟨dma, vsync⟩ := raises_of_last last
    have source := bit_lineStep_source wf noFault
    exact ⟨line, field, output, (source .dma).trans (by rw [dma, Bool.or_true]),
      (source _).trans (by rw [vsync, Bool.or_true])⟩
  · exact absurd last notLast

theorem lines_frameEnded {s : State} (wf : s.cfg.Wf) (start : s.line = 0)
    (noFault : (s.lines s.cfg.totalLines).faults = []) :
    FrameEnded s (s.lines s.cfg.totalLines) := by
  obtain ⟨u, lastStep, same, last, field, output⟩ := lines_total wf start noFault
  rw [lastStep] at noFault ⊢
  have ended := lineStep_last (same.cfg ▸ wf) noFault last
  rwa [FrameEnded, same.cfg, field, output] at ended

theorem execAll_replicate_line (n : Nat) (s : State) :
    execAll (List.replicate n .line) s = .next (s.lines n) := by
  induction n generalizing s with
  | zero => rfl
  | succ n ih => exact (execAll_cons rfl _).trans (ih s.lineStep)

/-- Settles O46: TOTAL_LINES - 1 steps go on and the last one ends the frame. -/
theorem frameIsTotalLinesSteps : Obligations.FrameIsTotalLinesSteps := by
  unfold Obligations.FrameIsTotalLinesSteps
  constructor
  · rintro s t - inFrame ⟨⟩ noFault
    rcases lineStep_progress (by omega) noFault with ⟨last, line, -⟩ | ⟨notLast, line, -⟩
    · rw [if_pos last, line]
    · rw [if_neg notLast, line]
  · intro s wf start _
    refine ⟨fun n inFrame noFault => lines_progress start inFrame noFault, ?_⟩
    intro t noFault
    obtain ⟨line, field, output, dma, vsync⟩ := lines_frameEnded wf start noFault
    exact ⟨execAll_replicate_line _ s, line, field, output, dma, vsync,
      fun inFrame => (bit_hsync_lines wf start le_rfl noFault).mpr (.inr inFrame)⟩

end Sys2Proof.Machine

/-! PROOFS. What a frame fetches (42 R194, R196, R225). `rowBytes` and `bytesBefore` count what is
fetched along a row and down a frame; the cursor moves by them where nothing faults, and nothing faults
where the buffer has room for them. -/

namespace Sys2Proof.Machine

/-! ## The bytes a row and a frame fetch -/

/-- Line `y` crosses the effective window. -/
def ActiveWindow.crosses (w : ActiveWindow) (y : Nat) : Bool :=
  decide (w.vstart ≤ y) && decide (y < w.vstart + w.vsize)

/-- The first even position that is active: the start, or the one after it where the start is odd. -/
def ActiveWindow.left (w : ActiveWindow) : Nat := w.hstart + w.hstart % 2

/-- The bytes that line `y` fetches for the positions below the even position `x`. -/
def rowBytes (w : ActiveWindow) (y x : Nat) : Nat :=
  if w.crosses y then 2 * (min x (w.left + w.hsize) - w.left) else 0

/-- The bytes that line `y` fetches. -/
def lineBytes (w : ActiveWindow) (y : Nat) : Nat := if w.crosses y then 2 * w.hsize else 0

/-- The bytes that the lines below `n` fetch. -/
def bytesBefore (w : ActiveWindow) (n : Nat) : Nat :=
  2 * w.hsize * (min n (w.vstart + w.vsize) - w.vstart)

theorem rowBytes_zero (w : ActiveWindow) (y : Nat) : rowBytes w y 0 = 0 := by simp [rowBytes]

theorem rowBytes_mono (w : ActiveWindow) (y : Nat) {x x' : Nat} (le : x ≤ x') :
    rowBytes w y x ≤ rowBytes w y x' := by
  simp only [rowBytes]
  split_ifs <;> omega

section Row
variable {w : ActiveWindow} (sizeEven : w.hsize % 2 = 0)
include sizeEven

/-- The pair at `x` takes its bytes where it is active. -/
theorem rowBytes_pair {x : Nat} (even : x % 2 = 0) (y : Nat) :
    rowBytes w y (x + 2) = rowBytes w y x + if w.contains x y then pairBytes else 0 := by
  simp only [rowBytes, ActiveWindow.crosses, ActiveWindow.left, contains_iff, Bool.and_eq_true,
    decide_eq_true_eq, pairBytes, bytesPerPixel]
  split_ifs <;> omega

theorem rowBytes_aligned {x : Nat} (even : x % 2 = 0) (y : Nat) : rowBytes w y x % 4 = 0 := by
  simp only [rowBytes, ActiveWindow.left]
  split_ifs <;> omega

/-- A row wide enough for the window fetches all its bytes, an odd start included. -/
theorem rowBytes_whole {width : Nat} (fits : w.hstart + w.hsize ≤ width) (even : width % 2 = 0)
    (y : Nat) : rowBytes w y width = lineBytes w y := by
  simp only [rowBytes, lineBytes, ActiveWindow.left]
  split_ifs <;> omega

theorem bytesBefore_aligned (n : Nat) : bytesBefore w n % 4 = 0 := by
  have fourBytes : 4 ∣ 2 * w.hsize := by omega
  exact Nat.mod_eq_zero_of_dvd (fourBytes.mul_right _)

end Row

theorem bytesBefore_zero (w : ActiveWindow) : bytesBefore w 0 = 0 := by simp [bytesBefore]

theorem bytesBefore_succ (w : ActiveWindow) (n : Nat) :
    bytesBefore w (n + 1) = bytesBefore w n + lineBytes w n := by
  have oneMore : min (n + 1) (w.vstart + w.vsize) - w.vstart
      = min n (w.vstart + w.vsize) - w.vstart + if w.crosses n then 1 else 0 := by
    simp only [ActiveWindow.crosses, Bool.and_eq_true, decide_eq_true_eq]
    split_ifs <;> omega
  rw [bytesBefore, oneMore, Nat.mul_add, lineBytes, mul_ite, Nat.mul_one, Nat.mul_zero]
  rfl

theorem bytesBefore_mono (w : ActiveWindow) {m n : Nat} (le : m ≤ n) :
    bytesBefore w m ≤ bytesBefore w n :=
  Nat.mul_le_mul_left _ (by omega)

/-- A frame has every line of the window. -/
theorem bytesBefore_total {s : State} (wf : s.cfg.Wf) :
    bytesBefore (window s) s.cfg.totalLines = (window s).hsize * (window s).vsize * 2 := by
  obtain ⟨⟨-, -, -, allVisible, -⟩, -⟩ := wf
  rw [bytesBefore, min_eq_right ((window_vertical s).fits.trans allVisible),
    Nat.add_sub_cancel_left]
  ring

/-! ## A row -/

theorem fetch_ok_cursor {s : State} {a a' v : Word} (ok : fetch s a = .ok (v, a')) :
    a' = a + BitVec.ofNat 32 pairBytes := by
  rcases fetch_cases s a with ⟨-, -, fetched⟩ | ⟨-, misaligned⟩ | ⟨-, -, overrun⟩
  · cases fetched.symm.trans ok
    rfl
  · cases misaligned.symm.trans ok
  · cases overrun.symm.trans ok

section Row
variable {s : State} {w : ActiveWindow} (enabled : fetchEnabled s = true)
  (sizeEven : w.hsize % 2 = 0)
include enabled sizeEven

theorem pairWord_ok_cursor {y x : Nat} (even : x % 2 = 0) {a a' v : Word}
    (ok : pairWord s w y x (a + BitVec.ofNat 32 (rowBytes w y x)) = .ok (v, a')) :
    a' = a + BitVec.ofNat 32 (rowBytes w y (x + 2)) := by
  rw [rowBytes_pair sizeEven even]
  rcases pairWord_cases s w y x (a + BitVec.ofNat 32 (rowBytes w y x)) with
    ⟨active, fetched⟩ | ⟨inactive, unfetched⟩
  · rw [enabled, Bool.true_and] at active
    have moved := fetch_ok_cursor (fetched.symm.trans ok)
    rw [moved, if_pos active, BitVec.ofNat_add, BitVec.add_assoc]
  · rw [enabled, Bool.true_and] at inactive
    cases unfetched.symm.trans ok
    simp [inactive]

/-- Along a row that faults nowhere the cursor moves by the bytes of the row. -/
theorem pairCells_ok_cursor {y n x : Nat} (even : x % 2 = 0) {a b : Word}
    {cells : List (Option Rgb)}
    (ok : pairCells s w y n x (a + BitVec.ofNat 32 (rowBytes w y x)) = .ok (cells, b)) :
    b = a + BitVec.ofNat 32 (rowBytes w y (x + 2 * n)) := by
  induction n generalizing x cells with
  | zero =>
    cases ok
    rfl
  | succ n ih =>
    obtain ⟨v, a', rest, pair, tail, -⟩ := pairCells_succ_ok ok
    rw [pairWord_ok_cursor enabled sizeEven even pair] at tail
    rw [ih (by omega) tail, Nat.mul_succ, Nat.add_right_comm, Nat.add_assoc]

/-- A row that faults does so in a fetch at one of its own addresses. -/
theorem pairCells_error_fetch {y n x : Nat} (even : x % 2 = 0) {a : Word} {f : FaultRecord}
    (error : pairCells s w y n x (a + BitVec.ofNat 32 (rowBytes w y x)) = .error f) :
    ∃ j, j % 4 = 0 ∧ j + pairBytes ≤ rowBytes w y (x + 2 * n)
      ∧ fetch s (a + BitVec.ofNat 32 j) = .error f := by
  induction n generalizing x with
  | zero => cases error
  | succ n ih =>
    rcases pairCells_succ_error error with first | ⟨v, a', pair, tail⟩
    · rcases pairWord_cases s w y x (a + BitVec.ofNat 32 (rowBytes w y x)) with
        ⟨active, fetched⟩ | ⟨-, unfetched⟩
      · rw [enabled, Bool.true_and] at active
        refine ⟨rowBytes w y x, rowBytes_aligned sizeEven even y, ?_, fetched ▸ first⟩
        calc rowBytes w y x + pairBytes = rowBytes w y (x + 2) := by
              rw [rowBytes_pair sizeEven even, if_pos active]
          _ ≤ rowBytes w y (x + 2 * (n + 1)) := rowBytes_mono w y (by omega)
      · cases unfetched.symm.trans first
    · rw [pairWord_ok_cursor enabled sizeEven even pair] at tail
      rw [Nat.mul_succ, Nat.add_comm (2 * n), ← Nat.add_assoc]
      exact ih (by omega) tail

end Row

theorem lineBytes_beyond_screen {s : State} {y : Nat} (beyond : s.cfg.screenHeight ≤ y) :
    lineBytes (window s) y = 0 := by
  have fits := (window_vertical s).fits
  simp [lineBytes, ActiveWindow.crosses]
  omega

theorem rowBytes_screen {s : State} (wf : s.cfg.Wf) (y : Nat) :
    rowBytes (window s) y (0 + 2 * (s.cfg.screenWidth / 2)) = lineBytes (window s) y := by
  obtain ⟨⟨-, widthEven, -⟩, -⟩ := wf
  have horizontal := window_horizontal s
  rw [Nat.zero_add, Nat.mul_div_cancel' (Nat.dvd_of_mod_eq_zero widthEven)]
  exact rowBytes_whole horizontal.even horizontal.fits widthEven y

section LineRow
variable {s : State} (wf : s.cfg.Wf) (enabled : fetchEnabled s = true)
include wf enabled

theorem lineRow_ok_cursor {t : State} (ok : s.lineRow = .ok t) :
    t.cursor = s.cursor + BitVec.ofNat 32 (lineBytes (window s) s.line) := by
  rcases lineRow_cases s with ⟨-, row⟩ | ⟨beyond, noRow⟩
  · obtain ⟨cells, a, produced, rfl⟩ := produceRow_ok (row ▸ ok)
    rw [← rowBytes_screen wf]
    exact pairCells_ok_cursor enabled (window_horizontal s).even rfl
      (by simpa [rowBytes_zero] using produced)
  · cases noRow.symm.trans ok
    simp [lineBytes_beyond_screen beyond]

theorem lineRow_error_fetch {f : FaultRecord} (error : s.lineRow = .error f) :
    ∃ j, j % 4 = 0 ∧ j + pairBytes ≤ lineBytes (window s) s.line
      ∧ fetch s (s.cursor + BitVec.ofNat 32 j) = .error f := by
  rcases lineRow_cases s with ⟨-, row⟩ | ⟨-, noRow⟩
  · have produced := produceRow_error (row ▸ error)
    rw [← rowBytes_screen wf]
    exact pairCells_error_fetch enabled (window_horizontal s).even rfl
      (by simpa [rowBytes_zero] using produced)
  · cases noRow.symm.trans error

end LineRow

/-! ## A line step -/

/-- The current descriptor of `t` is that of `s`, and its cursor is `bytes` further. -/
def Fetched (s t : State) (bytes : Nat) : Prop :=
  t.cstart = s.cstart ∧ t.csize = s.csize ∧ t.cvalid = s.cvalid
    ∧ t.cursor = s.cursor + BitVec.ofNat 32 bytes

theorem Fetched.none {s t : State} (same : SameCurrent s t) : Fetched s t 0 := by
  obtain ⟨cstart, csize, cvalid, cursor⟩ := same
  exact ⟨cstart, csize, cvalid, by simp [cursor]⟩

theorem Fetched.trans {s t u : State} {m n : Nat} (first : Fetched s t m) (second : Fetched t u n) :
    Fetched s u (m + n) := by
  obtain ⟨cstart, csize, cvalid, cursor⟩ := first
  obtain ⟨cstart', csize', cvalid', cursor'⟩ := second
  exact ⟨cstart'.trans cstart, csize'.trans csize, cvalid'.trans cvalid,
    by rw [cursor', cursor, BitVec.ofNat_add, BitVec.add_assoc]⟩

theorem Fetched.trans_none {s t u : State} {n : Nat} (first : Fetched s t n)
    (same : SameCurrent t u) : Fetched s u n :=
  Nat.add_zero n ▸ first.trans (.none same)

theorem lineEnd_sameCurrent (s : State) : SameCurrent s s.lineEnd := by
  rcases lineEnd_cases s with ⟨-, frame⟩ | ⟨-, next⟩
  · rw [frame]; exact ⟨rfl, rfl, rfl, rfl⟩
  · rw [next]; exact ⟨rfl, rfl, rfl, rfl⟩

/-- Only line 0 promotes. -/
theorem lineBegin_sameCurrent {s : State} (notFirst : s.line ≠ 0) : SameCurrent s s.lineBegin := by
  rcases lineBegin_cases s with ⟨first, -⟩ | ⟨-, same⟩
  · exact absurd first notFirst
  · rw [same]
    exact ⟨by simp, by simp, by simp, by simp⟩

theorem SameSetup.symm {s t : State} (same : SameSetup s t) : SameSetup t s :=
  ⟨same.cfg.symm, same.dmacntl.symm, same.fcntl.symm, same.hintline.symm, same.window.symm⟩

theorem fetchEnabled_of_sameSetup {s t : State} (same : SameSetup s t)
    (sameValid : t.cvalid = s.cvalid) : fetchEnabled t = fetchEnabled s := by
  simp only [fetchEnabled, vidEnab, dmaEn, same.fcntl, same.dmacntl, sameValid]

theorem lineStep_fetched {s : State} (wf : s.cfg.Wf) (enabled : fetchEnabled s.lineBegin = true)
    (noFault : s.lineStep.faults = []) :
    Fetched s.lineBegin s.lineStep (lineBytes (window s) s.line) := by
  obtain ⟨fb, cursor, row, ended⟩ := lineStep_noFault noFault
  have same := lineBegin_sameSetup s
  have moved := lineRow_ok_cursor (same.cfg ▸ wf) enabled row
  rw [same.window, lineBegin_line] at moved
  have overRow : Fetched s.lineBegin (s.lineBegin.withRow fb cursor) (lineBytes (window s) s.line) :=
    ⟨rfl, rfl, rfl, moved⟩
  rw [ended]
  exact overRow.trans_none (lineEnd_sameCurrent _)

/-! ## Room in the buffer -/

/-- From the aligned address `a` on, `bytes` bytes lie in the current buffer and below 2^32. -/
structure State.HasRoom (s : State) (a : Word) (bytes : Nat) : Prop where
  aligned : a.toNat % 4 = 0
  above : s.cstart.toNat ≤ a.toNat
  below : a.toNat + bytes ≤ s.cstart.toNat + s.csize.toNat
  inMemory : a.toNat + bytes ≤ 2 ^ 32

/-- No fetch within the room faults. -/
theorem fetch_ne_error {s : State} {a : Word} {bytes j : Nat} (room : s.HasRoom a bytes)
    (aligned : j % 4 = 0) (inside : j + pairBytes ≤ bytes) (f : FaultRecord) :
    fetch s (a + BitVec.ofNat 32 j) ≠ .error f := by
  obtain ⟨base, above, below, inMemory⟩ := room
  simp only [pairBytes, bytesPerPixel] at inside
  have address : (a + BitVec.ofNat 32 j).toNat = a.toNat + j := by
    rw [BitVec.toNat_add, BitVec.toNat_ofNat]
    omega
  have isAligned : fetchAligned (a + BitVec.ofNat 32 j) = true := by
    simp only [fetchAligned, address, beq_iff_eq]
    omega
  have isInside : fetchInBuffer s (a + BitVec.ofNat 32 j) = true := by
    simp only [fetchInBuffer, address, pairBytes, bytesPerPixel, Bool.and_eq_true, decide_eq_true_eq]
    omega
  simp [fetch, isAligned, isInside]

/-! ## A frame -/

theorem fetchEnabled_lines {s : State} (enabled : fetchEnabled s.lineBegin = true) {n bytes : Nat}
    (begun : Fetched s.lineBegin (s.lines n).lineBegin bytes) :
    fetchEnabled (s.lines n).lineBegin = true := by
  obtain ⟨-, -, sameValid, -⟩ := begun
  have same : SameSetup s.lineBegin (s.lines n).lineBegin :=
    (lineBegin_sameSetup s).symm.trans ((lines_sameSetup s n).trans (lineBegin_sameSetup _))
  rw [fetchEnabled_of_sameSetup same sameValid, enabled]

section Frame
variable {s : State} (wf : s.cfg.Wf) (start : s.line = 0)
  (enabled : fetchEnabled s.lineBegin = true)
include wf start enabled

theorem lines_succ_fetched {n : Nat} (inFrame : n < s.cfg.totalLines)
    (noFault : (s.lines (n + 1)).faults = [])
    (begun : Fetched s.lineBegin (s.lines n).lineBegin (bytesBefore (window s) n)) :
    Fetched s.lineBegin (s.lines (n + 1)) (bytesBefore (window s) (n + 1)) := by
  obtain ⟨line, -⟩ := lines_progress start inFrame (clean_of_lines_succ_clean noFault)
  have same := lines_sameSetup s n
  have step := lineStep_fetched (same.cfg ▸ wf) (fetchEnabled_lines enabled begun)
    (lines_succ n s ▸ noFault)
  rw [same.window, line, ← lines_succ] at step
  rw [bytesBefore_succ]
  exact begun.trans step

/-- The lines of a frame fetch their bytes one after the other from where line 0 begins. -/
theorem lineBegin_lines_fetched {n : Nat} (inFrame : n < s.cfg.totalLines)
    (noFault : (s.lines n).faults = []) :
    Fetched s.lineBegin (s.lines n).lineBegin (bytesBefore (window s) n) := by
  induction n with
  | zero =>
    rw [bytesBefore_zero]
    exact .none ⟨rfl, rfl, rfl, rfl⟩
  | succ n ih =>
    have begun := ih (by omega) (clean_of_lines_succ_clean noFault)
    obtain ⟨line, -⟩ := lines_progress start inFrame noFault
    exact (lines_succ_fetched wf start enabled (by omega) noFault begun).trans_none
      (lineBegin_sameCurrent (by omega))

/-- A frame that records no fault fetches the bytes of its window. -/
theorem lines_total_fetched (noFault : (s.lines s.cfg.totalLines).faults = []) :
    Fetched s.lineBegin (s.lines s.cfg.totalLines)
      ((window s).hsize * (window s).vsize * 2) := by
  obtain ⟨k, total⟩ := Nat.exists_eq_add_one.mpr (totalLines_pos wf)
  rw [← bytesBefore_total wf]
  rw [total] at noFault ⊢
  exact lines_succ_fetched wf start enabled (by omega) noFault
    (lineBegin_lines_fetched wf start enabled (by omega) (clean_of_lines_succ_clean noFault))

/-- Where the buffer has room for the frame, no line of it records a fault. -/
theorem lines_clean (clean : s.faults = [])
    (room : s.lineBegin.HasRoom s.lineBegin.cursor (bytesBefore (window s) s.cfg.totalLines))
    {n : Nat} (inFrame : n ≤ s.cfg.totalLines) : (s.lines n).faults = [] := by
  induction n with
  | zero => exact clean
  | succ n ih =>
    have clean := ih (by omega)
    have begun := lineBegin_lines_fetched wf start enabled inFrame clean
    have same := (lines_sameSetup s n).trans (lineBegin_sameSetup _)
    obtain ⟨line, -⟩ := lines_progress start inFrame clean
    rw [lines_succ]
    cases row : (s.lines n).lineBegin.lineRow with
    | ok t => exact lineStep_faults_of_row clean row
    | error f =>
      obtain ⟨j, aligned, inside, error⟩ :=
        lineRow_error_fetch (same.cfg ▸ wf) (fetchEnabled_lines enabled begun) row
      rw [same.window, lineBegin_line, line] at inside
      obtain ⟨cstart, csize, -, cursor⟩ := begun
      have roomLeft : (s.lines n).lineBegin.HasRoom s.lineBegin.cursor
          (bytesBefore (window s) s.cfg.totalLines) :=
        ⟨room.aligned, cstart ▸ room.above, by rw [cstart, csize]; exact room.below, room.inMemory⟩
      rw [cursor, BitVec.add_assoc, ← BitVec.ofNat_add] at error
      have := bytesBefore_aligned (window_horizontal s).even n
      have := bytesBefore_succ (window s) n
      have := bytesBefore_mono (window s) inFrame
      exact absurd error (fetch_ne_error roomLeft (by omega) (by omega) f)

end Frame

/-- The descriptor and cursor in force from line 0 on: the promoted ones under NV, else the current
ones. -/
theorem lineBegin_inForce {s : State} (start : s.line = 0) :
    s.lineBegin.cstart = (if nv s then s.nstart else s.cstart)
      ∧ s.lineBegin.csize = (if nv s then s.nsize else s.csize)
      ∧ s.lineBegin.cvalid = (nv s || s.cvalid)
      ∧ s.lineBegin.cursor = if nv s then
          cursorInit s.cfg.cursorInit s.nstart s.nsize (window s).hsize else s.cursor := by
  rcases lineBegin_cases s with ⟨-, promotes, promoted⟩ | ⟨notPromotes, same⟩
  · simp [promoted, promotes]
  · have current : nv s = false := by simpa [start] using notPromotes
    simp [same, current]

theorem fetchEnabled_lineBegin {s : State} (start : s.line = 0) (output : vidEnab s = true)
    (dma : dmaEn s = true) (valid : nv s = true ∨ s.cvalid = true) :
    fetchEnabled s.lineBegin = true := by
  obtain ⟨-, -, sameValid, -⟩ := lineBegin_inForce start
  have same := lineBegin_sameSetup s
  have video : vidEnab s.lineBegin = true := by rwa [vidEnab, same.fcntl]
  have fetches : dmaEn s.lineBegin = true := by rwa [dmaEn, same.dmacntl]
  simpa [fetchEnabled, video, fetches, sameValid] using valid

/-- Settles O48: the frame fetches the bytes of its window, and a buffer that holds just these from its
start on has room for them. -/
theorem frameConsumesItsBuffer : Obligations.FrameConsumesItsBuffer := by
  unfold Obligations.FrameConsumesItsBuffer
  intro s wf start clean output dma valid w bytes first size a t
  have enabled := fetchEnabled_lineBegin start output dma valid
  obtain ⟨firstBegun, sizeBegun, -, aBegun⟩ := lineBegin_inForce start
  have fetched (noFault : t.faults = []) :
      t.cstart = first ∧ t.csize = size ∧ t.cursor = a + BitVec.ofNat 32 bytes := by
    obtain ⟨cstart, csize, -, cursor⟩ := lines_total_fetched wf start enabled noFault
    exact ⟨cstart.trans firstBegun, csize.trans sizeBegun, by rw [cursor, aBegun]⟩
  have noFault_of_room (aligned : a.toNat % 4 = 0) (above : first.toNat ≤ a.toNat)
      (below : a.toNat + bytes ≤ first.toNat + size.toNat) (inMemory : a.toNat + bytes ≤ 2 ^ 32) :
      t.faults = [] := by
    refine lines_clean wf start enabled clean ?_ le_rfl
    rw [bytesBefore_total wf, aBegun]
    exact ⟨aligned, firstBegun ▸ above, by rw [firstBegun, sizeBegun]; exact below, inMemory⟩
  refine ⟨fun noFault => (fetched noFault).2.2, noFault_of_room, ?_⟩
  intro inForce aligned exactSize inMemory
  have atStart : a = first := by
    rcases inForce with ⟨promotes, convention⟩ | ⟨current, same⟩
    · simp [a, first, promotes, convention, cursorInit]
    · simp [a, first, current, same]
  rw [atStart] at noFault_of_room
  have noFault := noFault_of_room aligned le_rfl (by rw [exactSize]) inMemory
  obtain ⟨cstart, csize, cursor⟩ := fetched noFault
  have wholeSize : BitVec.ofNat 32 bytes = size := by
    rw [← exactSize, BitVec.ofNat_toNat, BitVec.setWidth_eq]
  exact ⟨noFault, by rw [cursor, cstart, csize, atStart, wholeSize]⟩

end Sys2Proof.Machine

/-! PROOFS. What a fetch faults on, and what a faulting line step leaves (60 R242, 42 R203). `fetch_eq` is
the fetch in arithmetic. A row records what one of its fetches records; the first of them is at the
cursor, since no pair before it moves the cursor. -/

namespace Sys2Proof.Machine

/-! ## The fetch -/

theorem fetchAligned_iff (a : Word) : fetchAligned a = true ↔ a.toNat % 4 = 0 := by
  rw [fetchAligned, beq_iff_eq]

theorem fetchAligned_eq_false_iff (a : Word) : fetchAligned a = false ↔ a.toNat % 4 ≠ 0 := by
  rw [ne_eq, ← fetchAligned_iff, Bool.not_eq_true]

theorem fetchInBuffer_eq_false_iff (s : State) (a : Word) :
    fetchInBuffer s a = false
      ↔ a.toNat < s.cstart.toNat ∨ s.cstart.toNat + s.csize.toNat < a.toNat + 4 := by
  rw [fetchInBuffer, Bool.and_eq_false_iff, decide_eq_false_iff_not, decide_eq_false_iff_not,
    Nat.not_le, Nat.not_le]
  rfl

/-- The fetch, with its two tests as arithmetic on unbounded naturals. -/
theorem fetch_eq (s : State) (a : Word) :
    fetch s a =
      if a.toNat % 4 ≠ 0 then .error (.misalignedFetch a)
      else if a.toNat < s.cstart.toNat ∨ s.cstart.toNat + s.csize.toNat < a.toNat + 4 then
        .error (.cursorOverrun a)
      else .ok (memRead s.cfg.byteOrder s.mem a, a + 4#32) := by
  simp only [← fetchAligned_eq_false_iff, ← fetchInBuffer_eq_false_iff]
  rcases fetch_cases s a with ⟨aligned, inside, fetched⟩ | ⟨misaligned, error⟩ |
    ⟨aligned, outside, error⟩
  · simp [fetched, aligned, inside]
  · simp [error, misaligned]
  · simp [error, aligned, outside]

theorem fetch_error_justified {s : State} {a : Word} {f : FaultRecord}
    (error : fetch s a = .error f) : f.Justified := by
  rcases fetch_cases s a with ⟨-, -, fetched⟩ | ⟨misaligned, recorded⟩ | ⟨aligned, -, recorded⟩
  · cases fetched.symm.trans error
  · cases recorded.symm.trans error
    exact (fetchAligned_eq_false_iff a).mp misaligned
  · cases recorded.symm.trans error
    exact (fetchAligned_iff a).mp aligned

/-- A fetch reads the configuration, host memory and the current descriptor. -/
theorem fetch_congr {s t : State} (cfg : t.cfg = s.cfg) (mem : t.mem = s.mem)
    (current : SameCurrent s t) (a : Word) : fetch t a = fetch s a := by
  obtain ⟨cstart, csize, -⟩ := current
  rw [fetch_eq, fetch_eq, cfg, mem, cstart, csize]

/-! ## What a row records -/

theorem pairCells_error_justified {s : State} {w : ActiveWindow} {y n x : Nat} {a : Word}
    {f : FaultRecord} (error : pairCells s w y n x a = .error f) : f.Justified := by
  induction n generalizing x a with
  | zero => cases error
  | succ n ih =>
    rcases pairCells_succ_error error with first | ⟨-, a', -, tail⟩
    · rcases pairWord_cases s w y x a with ⟨-, fetched⟩ | ⟨-, unfetched⟩
      · exact fetch_error_justified (fetched ▸ first)
      · cases unfetched.symm.trans first
    · exact ih tail

theorem lineRow_error_justified {s : State} {f : FaultRecord} (error : s.lineRow = .error f) :
    f.Justified := by
  rcases lineRow_cases s with ⟨-, row⟩ | ⟨-, noRow⟩
  · exact pairCells_error_justified (produceRow_error (row ▸ error))
  · cases noRow.symm.trans error

/-! ## The first fetch of a row -/

theorem pairCells_of_first_error {s : State} {w : ActiveWindow} {y x : Nat} {a : Word}
    {f : FaultRecord} (n : Nat) (first : pairWord s w y x a = .error f) :
    pairCells s w y (n + 1) x a = .error f := by
  rw [pairCells, first]

theorem pairCells_of_tail_error {s : State} {w : ActiveWindow} {y n x : Nat} {a a' v : Word}
    {f : FaultRecord} (pair : pairWord s w y x a = .ok (v, a'))
    (tail : pairCells s w y n (x + 2) a' = .error f) :
    pairCells s w y (n + 1) x a = .error f := by
  simp only [pairCells, pair, tail]

/-- Pairs of which one is active fault as the fetch at their cursor does: those before the first active
one leave the cursor there. -/
theorem pairCells_of_fetch_error {s : State} {w : ActiveWindow} {y n x k : Nat} {a : Word}
    {f : FaultRecord} (enabled : fetchEnabled s = true) (error : fetch s a = .error f)
    (among : k < n) (active : w.contains (x + 2 * k) y = true) :
    pairCells s w y n x a = .error f := by
  induction n generalizing x k with
  | zero => omega
  | succ n ih =>
    rcases pairWord_cases s w y x a with ⟨-, fetched⟩ | ⟨inactive, unfetched⟩
    · exact pairCells_of_first_error n (fetched.trans error)
    · rw [enabled, Bool.true_and] at inactive
      cases k with
      | zero => cases inactive.symm.trans active
      | succ k =>
        have later : x + 2 + 2 * k = x + 2 * (k + 1) := by omega
        exact pairCells_of_tail_error unfetched
          (ih (Nat.lt_of_succ_lt_succ among) (by rw [later]; exact active))

/-- A row of a non-empty window has an active pair. -/
theorem exists_active_pair {s : State} (wf : s.cfg.Wf) {y : Nat} (nonEmpty : 0 < (window s).hsize)
    (above : (window s).vstart ≤ y) (below : y < (window s).vstart + (window s).vsize) :
    ∃ k, k < s.cfg.screenWidth / 2 ∧ (window s).contains (0 + 2 * k) y = true := by
  obtain ⟨⟨-, widthEven, -⟩, -⟩ := wf
  have sizeEven := (window_horizontal s).even
  have fits := (window_horizontal s).fits
  refine ⟨(window s).left / 2, ?_, (contains_iff ..).mpr ⟨⟨above, below⟩, ?_⟩⟩ <;>
    · rw [ActiveWindow.left]
      omega

theorem lineRow_of_fetch_error {s : State} {f : FaultRecord} (wf : s.cfg.Wf)
    (enabled : fetchEnabled s = true) (nonEmpty : 0 < (window s).hsize)
    (above : (window s).vstart ≤ s.line) (below : s.line < (window s).vstart + (window s).vsize)
    (error : fetch s s.cursor = .error f) : s.lineRow = .error f := by
  have visible : s.line < s.cfg.screenHeight := by
    have := (window_vertical s).fits
    omega
  obtain ⟨k, among, active⟩ := exists_active_pair wf nonEmpty above below
  rw [State.lineRow, if_pos visible, produceRow, pairCells_of_fetch_error enabled error among active]

/-! ## The faulting line step -/

theorem recordFault_of_clean {s : State} (clean : s.faults = []) (f : FaultRecord) :
    s.recordFault f = { s with faults := [f] } := by
  simp [State.recordFault, clean]

/-- A line step whose row faults leaves the record alone (42 R203). -/
theorem lineStep_of_row_error {s : State} {f : FaultRecord} (clean : s.faults = [])
    (row : s.lineBegin.lineRow = .error f) : s.lineStep = { s with faults := [f] } := by
  rw [State.lineStep, if_pos clean, row]
  exact recordFault_of_clean clean f

/-- Without a promotion the line step starts from the current descriptor and cursor. -/
theorem lineBegin_sameCurrent_of_not_promoted {s : State} (stays : s.line = 0 → nv s = false) :
    SameCurrent s s.lineBegin := by
  rcases lineBegin_cases s with ⟨first, promotes, -⟩ | ⟨-, same⟩
  · cases promotes.symm.trans (stays first)
  · rw [same]
    exact ⟨by simp, by simp, by simp, by simp⟩

theorem lineStep_of_fetch_error {s : State} {f : FaultRecord} (wf : s.cfg.Wf)
    (clean : s.faults = []) (stays : s.line = 0 → nv s = false) (enabled : fetchEnabled s = true)
    (nonEmpty : 0 < (window s).hsize) (above : (window s).vstart ≤ s.line)
    (below : s.line < (window s).vstart + (window s).vsize) (error : fetch s s.cursor = .error f) :
    s.lineStep = { s with faults := [f] } := by
  have setup := lineBegin_sameSetup s
  have current := lineBegin_sameCurrent_of_not_promoted stays
  have sameFetch := fetch_congr setup.cfg (lineBegin_mem s) current
  obtain ⟨-, -, valid, cursor⟩ := current
  refine lineStep_of_row_error clean (lineRow_of_fetch_error (setup.cfg ▸ wf) ?_ ?_ ?_ ?_ ?_)
  · rw [fetchEnabled_of_sameSetup setup valid, enabled]
  · rwa [setup.window]
  · rwa [setup.window, lineBegin_line]
  · rwa [setup.window, lineBegin_line]
  · rw [cursor, sameFetch, error]

/-- What a line step records in a state with no fault is all that it changes. -/
theorem lineStep_records_one {s : State} (clean : s.faults = []) :
    s.lineStep.faults = []
      ∨ ∃ f : FaultRecord, f.Justified ∧ s.lineStep = { s with faults := [f] } := by
  cases row : s.lineBegin.lineRow with
  | error f => exact .inr ⟨f, lineRow_error_justified row, lineStep_of_row_error clean row⟩
  | ok t => exact .inl (lineStep_faults_of_row clean row)

/-- Only LINE records a fault: the writes that promote and RESET keep them too. -/
theorem exec_faults {i : Instr} {s t : State} (notLine : i ≠ .line) (next : exec i s = .next t) :
    t.faults = s.faults := by
  cases i with
  | line => exact absurd rfl notLine
  | wrVidNstart | wrVidNsize | wrVidDmacntl => cases next; exact promoteOnWrite_faults _
  | _ => cases next; rfl

/-- Settles O42: a fetch at the cursor that faults is the row's first, and the line step ends where it
began, with that record. -/
theorem faultingLineStepRollsBack : Obligations.FaultingLineStepRollsBack := by
  unfold Obligations.FaultingLineStepRollsBack
  refine ⟨?_, ?_, fun _ _ _ => exec_faults, fetch_eq⟩
  · intro s wf clean stays output dma valid nonEmpty above below
    have enabled : fetchEnabled s = true := by simp [fetchEnabled, output, dma, valid]
    have faults (f : FaultRecord) (error : fetch s s.cursor = .error f) :
        exec .line s = .next { s with faults := [f] } :=
      congrArg _ (lineStep_of_fetch_error wf clean stays enabled nonEmpty above below error)
    refine ⟨fun misaligned => faults _ ?_, fun aligned outside => faults _ ?_⟩
    · rw [fetch_eq, if_pos misaligned]
    · rw [fetch_eq, if_neg (not_not_intro aligned), if_pos outside]
  · rintro s t clean ⟨⟩
    exact lineStep_records_one clean

end Sys2Proof.Machine

/-! PROOFS. RESET and power-on (70 R270 to R272). RESET keeps what is no state of the block and the
records of what went wrong; with no such record it leaves the power-on state. -/

namespace Sys2Proof.Machine

/-! ## The line under a zero global enable -/

/-- No pending domain reaches the host through a global enable of 0. -/
theorem irq_of_genable_zero {s : State} (disabled : s.genable = 0#32) : irq s = false := by
  refine Bool.eq_false_iff.mpr fun asserted => ?_
  obtain ⟨d, -, enabled⟩ := (irq_iff s).mp asserted
  rw [disabled, bit_zero] at enabled
  contradiction

/-! ## The event -/

/-- 0x8300 has `KIND` 10, `EV` 3 and every other field 0 (30 R82). -/
theorem decode_resetCmd (cfg : Config) (data : Word) : decode cfg ⟨0x8300#16, data⟩ = .reset :=
  decode_event cfg 0b00#2 0b0011#4 0b00000#5 0b000#3 data

theorem exec_reset (s : State) : exec .reset s = .next s.resetEvent := rfl

@[simp] theorem domainWords_all_at (w : Word) (d : Domain) : (DomainWords.all w).at d = w := by
  cases d <;> rfl

theorem resetEvent_of_clean {s : State} (clean : s.faults = []) (notRefused : s.refused = false) :
    s.resetEvent
      = { State.powerOn s.cfg with mem := s.mem, inbox := s.inbox, output := s.output } := by
  rw [State.resetEvent, clean, notRefused]
  rfl

/-! ## The statements -/

/-- Settles O18: the values are those of the power-on state, and a global enable of 0 deasserts the
line. -/
theorem resetEventRestoresResetValues : Obligations.ResetEventRestoresResetValues := by
  unfold Obligations.ResetEventRestoresResetValues
  exact ⟨decode_resetCmd, fun s => ⟨s.resetEvent, exec_reset s, rfl, irq_of_genable_zero rfl⟩⟩

/-- Settles O19: what RESET keeps is what power-on has empty. -/
theorem powerOnLeavesResetValues : Obligations.PowerOnLeavesResetValues := by
  unfold Obligations.PowerOnLeavesResetValues
  constructor
  · intro s clean notRefused
    refine ⟨s.resetEvent, exec_reset s, ?_⟩
    rw [resetEvent_of_clean clean notRefused]
  · exact fun cfg => ⟨rfl, rfl, rfl, domainWords_all_at 0#32, irq_of_genable_zero rfl⟩

end Sys2Proof.Machine

/-! PROOFS. The encoding (30 R80 to R92). `mem_domainMap_iff` ties the rows of the collaborators'
pairs to the offsets that the encoder uses; each decoder then gives back what the encoder put
together, and encodes to the fields it was given. -/

namespace Sys2Proof

/-! ## The rows of the map -/

theorem lookup_of_mem {rows : List (Offset × Slot)} (distinct : (rows.map Prod.fst).Nodup)
    {offset : Offset} {slot : Slot} (row : (offset, slot) ∈ rows) :
    rows.lookup offset = some slot := by
  obtain ⟨before, after, rfl⟩ := List.append_of_mem row
  rw [List.map_append, List.nodup_append] at distinct
  obtain ⟨-, -, apart⟩ := distinct
  exact List.lookup_eq_some_iff.mpr ⟨before, after, rfl, fun p earlier =>
    bne_iff_ne.mpr (apart p.1 (List.mem_map_of_mem earlier) offset (by simp)).symm⟩

theorem mem_of_slotAt {cfg : Config} {offset : Offset} {slot : Slot}
    (mapped : slotAt cfg offset = some slot) :
    (offset, slot) ∈ registerMap ∨ (offset, slot) ∈ domainMap cfg.domainRegs := by
  obtain ⟨before, after, rows, -⟩ := List.lookup_eq_some_iff.mp mapped
  rw [← List.mem_append, rows]
  simp

theorem exists_collab_iff (p : Collab → Prop) :
    (∃ d, p d) ↔ p .audio ∨ p .devio ∨ p .rio ∨ p .timer := by
  constructor
  · rintro ⟨d, holds⟩
    cases d <;> simp [holds]
  · rintro (holds | holds | holds | holds) <;> exact ⟨_, holds⟩

theorem mem_domainRows_iff (cfg : Config) (d : Collab) (offset : Offset) (slot : Slot) :
    (offset, slot) ∈ domainRows d (cfg.domainRegs.at d)
      ↔ (cfg.domainRegs.at d).isSome = true
        ∧ ∃ r, offset = domainOffset cfg d r ∧ slot = .dom d r := by
  unfold domainOffset
  cases cfg.domainRegs.at d with
  | none => simp [domainRows]
  | some regs =>
    simp only [domainRows, List.mem_cons, List.not_mem_nil, or_false, Prod.mk.injEq,
      Option.isSome_some, true_and]
    constructor
    · rintro (row | row | row | row)
      · exact ⟨.statusSet, row⟩
      · exact ⟨.statusClear, row⟩
      · exact ⟨.enableSet, row⟩
      · exact ⟨.enableClear, row⟩
    · rintro ⟨r, row⟩
      cases r <;> simp [row]

/-- The collaborators' rows are the registers of the mapped domains at the encoder's offsets. -/
theorem mem_domainMap_iff (cfg : Config) (offset : Offset) (slot : Slot) :
    (offset, slot) ∈ domainMap cfg.domainRegs
      ↔ ∃ d, (cfg.domainRegs.at d).isSome = true
        ∧ ∃ r, offset = domainOffset cfg d r ∧ slot = .dom d r := by
  simp only [← mem_domainRows_iff, exists_collab_iff, domainMap, List.mem_append]
  rfl

section Mapped
variable {cfg : Config} (wf : cfg.Wf) {d : Collab} (mapped : (cfg.domainRegs.at d).isSome = true)
include wf mapped

theorem slotAt_domainOffset (r : PairReg) :
    slotAt cfg (domainOffset cfg d r) = some (.dom d r) := by
  obtain ⟨-, -, -, -, -, distinct, -⟩ := wf
  exact lookup_of_mem distinct
    (List.mem_append_right _ ((mem_domainMap_iff ..).mpr ⟨d, mapped, r, rfl, rfl⟩))

/-- `CLEAR_OFFSET` is a multiple of 4. -/
theorem wordAligned_domainOffset (r : PairReg) : wordAligned (domainOffset cfg d r) = true := by
  obtain ⟨-, -, -, -, inWindow, -⟩ := wf
  obtain ⟨regs, places⟩ := Option.isSome_iff_exists.mp mapped
  have listed : regs ∈ [cfg.domainRegs.audio, cfg.domainRegs.devio, cfg.domainRegs.rio,
      cfg.domainRegs.timer].reduceOption := by
    rw [List.reduceOption_mem_iff, ← places]
    cases d <;> simp [DomainPlaces.at]
  obtain ⟨statusAligned, -, enableAligned, -⟩ := inWindow regs listed
  rw [wordAligned_iff] at statusAligned enableAligned ⊢
  cases r <;>
    simp only [domainOffset, places, clearOffset, BitVec.toNat_add, BitVec.toNat_ofNat] <;> omega

theorem decode_domainOffset_read (r : PairReg) (data : Word) :
    decode cfg ⟨accessCmd 0b00#2 0b00#2 (domainOffset cfg d r), data⟩ = readOf (.dom d r) :=
  (decode_read ..).trans
    (decodeRead_of_mapped (wordAligned_domainOffset wf mapped r) (slotAt_domainOffset wf mapped r))

theorem decode_domainOffset_write (r : PairReg) (data : Word) :
    decode cfg ⟨accessCmd 0b01#2 0b00#2 (domainOffset cfg d r), data⟩ = writeOf data (.dom d r) :=
  (decode_write ..).trans (decodeWrite_of_mapped data (wordAligned_domainOffset wf mapped r)
    (slotAt_domainOffset wf mapped r))

end Mapped

/-- Settles O12: the four offsets are the encoder's, and distinct from those of every other row. -/
theorem collaboratorPairsDecodeAtTheirOffsets :
    Obligations.CollaboratorPairsDecodeAtTheirOffsets := by
  unfold Obligations.CollaboratorPairsDecodeAtTheirOffsets
  intro cfg d regs data wf places
  have mapped : (cfg.domainRegs.at d).isSome = true := by rw [places]; rfl
  have reads := fun r => decode_domainOffset_read wf mapped r data
  have writes := fun r => decode_domainOffset_write wf mapped r data
  simp only [domainOffset, places] at reads writes
  exact ⟨reads .statusSet, reads .statusClear, reads .enableSet, reads .enableClear,
    writes .statusSet, writes .statusClear, writes .enableSet, writes .enableClear⟩

/-! ## Decoding an encoded transaction -/

theorem decode_reservedKind (cfg : Config) (rest : BitVec 14) (data : Word) :
    decode cfg ⟨0b11#2 ++ rest, data⟩ = .refusedReservedKind rest := by
  have kind : (0b11#2 ++ rest : BitVec 16).extractLsb' 14 2 = 0b11#2 :=
    BitVec.extractLsb'_append_eq_left
  have fields : (0b11#2 ++ rest : BitVec 16).extractLsb' 0 14 = rest :=
    BitVec.extractLsb'_append_eq_right
  simp [decode, kind, fields]

theorem decodeRead_of_notWordWidth {cfg : Config} {width : BitVec 2}
    (notWord : (width != 0b00#2) = true) (offset : Offset) :
    decodeRead cfg width offset = .refusedNotWordWidthRd width offset :=
  if_pos notWord

theorem decodeWrite_of_notWordWidth {cfg : Config} {width : BitVec 2}
    (notWord : (width != 0b00#2) = true) (offset : Offset) (data : Word) :
    decodeWrite cfg width offset data = .refusedNotWordWidthWr width offset :=
  if_pos notWord

theorem decodeRead_of_misaligned {cfg : Config} {offset : Offset}
    (misaligned : (!wordAligned offset) = true) :
    decodeRead cfg 0b00#2 offset = .refusedMisalignedOffsetRd offset :=
  if_pos misaligned

theorem decodeWrite_of_misaligned {cfg : Config} {offset : Offset} (data : Word)
    (misaligned : (!wordAligned offset) = true) :
    decodeWrite cfg 0b00#2 offset data = .refusedMisalignedOffsetWr offset :=
  if_pos misaligned

theorem decodeEvent_of_badEvent {zeroHi : BitVec 2} {ev : BitVec 4} {zeroLo : BitVec 5}
    (bad : badEventFields zeroHi ev zeroLo = true) (dom : BitVec 3) (data : Word) :
    decodeEvent zeroHi ev zeroLo dom data = .refusedBadEvent zeroHi ev zeroLo dom :=
  if_pos bad

theorem reserved_of_wf {cfg : Config} {offset : Offset}
    (wf : (wordAligned offset && (slotAt cfg offset).isNone) = true) :
    wordAligned offset = true ∧ slotAt cfg offset = none := by
  simpa using wf

theorem badDomain_of_wf {ev : BitVec 4} {dom : BitVec 3}
    (wf : (decide (ev ≤ 0b0011#4) && badDomainFields ev dom) = true) :
    badEventFields 0b00#2 ev 0b00000#5 = false ∧ badDomainFields ev dom = true := by
  obtain ⟨known, bad⟩ := Bool.and_eq_true_iff.mp wf
  exact ⟨by simpa [badEventFields] using known, bad⟩

/-- Settles O50: a parametric command is taken apart into the fields it was put together from; a
fixed one is found among the fixed rows, before any domain's, or is an event of fixed fields. -/
theorem decodeEncodeAgree : Obligations.DecodeEncodeAgree := by
  unfold Obligations.DecodeEncodeAgree
  intro cfg i cfgWf wf
  cases i with
  | rdDomStatusS d => exact decode_domainOffset_read cfgWf wf .statusSet _
  | rdDomStatusC d => exact decode_domainOffset_read cfgWf wf .statusClear _
  | rdDomEnableS d => exact decode_domainOffset_read cfgWf wf .enableSet _
  | rdDomEnableC d => exact decode_domainOffset_read cfgWf wf .enableClear _
  | wrDomStatusS d data => exact decode_domainOffset_write cfgWf wf .statusSet data
  | wrDomStatusC d data => exact decode_domainOffset_write cfgWf wf .statusClear data
  | wrDomEnableS d data => exact decode_domainOffset_write cfgWf wf .enableSet data
  | wrDomEnableC d data => exact decode_domainOffset_write cfgWf wf .enableClear data
  | rdReserved offset =>
    obtain ⟨aligned, unmapped⟩ := reserved_of_wf wf
    exact (decode_read ..).trans (decodeRead_of_reserved aligned unmapped)
  | wrReserved offset data =>
    obtain ⟨aligned, unmapped⟩ := reserved_of_wf wf
    exact (decode_write ..).trans (decodeWrite_of_reserved data aligned unmapped)
  | refusedReservedKind rest => exact decode_reservedKind cfg rest _
  | refusedNotWordWidthRd width offset =>
    exact (decode_read ..).trans (decodeRead_of_notWordWidth wf offset)
  | refusedNotWordWidthWr width offset => 
    exact (decode_write ..).trans (decodeWrite_of_notWordWidth wf offset _)
  | refusedMisalignedOffsetRd offset =>
    exact (decode_read ..).trans (decodeRead_of_misaligned wf)
  | refusedMisalignedOffsetWr offset =>
    exact (decode_write ..).trans (decodeWrite_of_misaligned _ wf)
  | refusedBadEvent zeroHi ev zeroLo dom => 
    exact (decode_event ..).trans (decodeEvent_of_badEvent wf dom _)
  | refusedBadDomain ev dom =>
    obtain ⟨known, bad⟩ := badDomain_of_wf wf
    exact (decode_event ..).trans (decodeEvent_of_badDomain known bad _)
  | _ =>
    simp only [decode, encode, bare, BitVec.reduceExtractLsb', BitVec.reduceBEq, Bool.false_eq_true,
      ↓reduceIte, BEq.rfl]
    rfl

/-! ## Encoding a decoded command -/

/-- A transaction that some command word stands for, with that word and its operand. -/
def EncodesTo (cfg : Config) (i : Instr) (t : Transaction) : Prop :=
  i.wf cfg = true ∧ encode cfg i = t

theorem registerMap_encodes (cfg : Config) (data : Word) : ∀ row ∈ registerMap,
    EncodesTo cfg (readOf row.2) (bare (accessCmd 0b00#2 0b00#2 row.1))
      ∧ EncodesTo cfg (writeOf data row.2) ⟨accessCmd 0b01#2 0b00#2 row.1, data⟩ := by
  intro row listed
  fin_cases listed <;> exact ⟨⟨rfl, rfl⟩, rfl, rfl⟩

theorem dom_encodes {cfg : Config} {d : Collab} (mapped : (cfg.domainRegs.at d).isSome = true)
    (r : PairReg) (data : Word) :
    EncodesTo cfg (readOf (.dom d r)) (domainRead cfg d r)
      ∧ EncodesTo cfg (writeOf data (.dom d r)) (domainWrite cfg d r data) := by
  cases r <;> exact ⟨⟨mapped, rfl⟩, mapped, rfl⟩

/-- The read and the write of a mapped slot encode to the offset it is mapped at. -/
theorem mapped_encodes {cfg : Config} {offset : Offset} {slot : Slot}
    (mapped : slotAt cfg offset = some slot) (data : Word) :
    EncodesTo cfg (readOf slot) (bare (accessCmd 0b00#2 0b00#2 offset))
      ∧ EncodesTo cfg (writeOf data slot) ⟨accessCmd 0b01#2 0b00#2 offset, data⟩ := by
  rcases mem_of_slotAt mapped with fixed | collab
  · exact registerMap_encodes cfg data _ fixed
  · obtain ⟨d, present, r, rfl, rfl⟩ := (mem_domainMap_iff ..).mp collab
    exact dom_encodes present r data

theorem decodeRead_encodes (cfg : Config) (width : BitVec 2) (offset : Offset) :
    EncodesTo cfg (decodeRead cfg width offset) (bare (accessCmd 0b00#2 width offset)) := by
  by_cases notWord : (width != 0b00#2) = true
  · exact decodeRead_of_notWordWidth notWord offset ▸ ⟨notWord, rfl⟩
  · obtain rfl : width = 0b00#2 := by simpa using notWord
    by_cases misaligned : (!wordAligned offset) = true
    · exact decodeRead_of_misaligned misaligned ▸ ⟨misaligned, rfl⟩
    · have aligned : wordAligned offset = true := by simpa using misaligned
      cases slot : slotAt cfg offset with
      | none => exact decodeRead_of_reserved aligned slot ▸ ⟨by simp [Instr.wf, aligned, slot], rfl⟩
      | some _ => exact decodeRead_of_mapped aligned slot ▸ (mapped_encodes slot 0#32).1

/-- A refused write drops its operand, and no other does. -/
theorem decodeWrite_encodes (cfg : Config) (width : BitVec 2) (offset : Offset) (data : Word) :
    ∃ kept, EncodesTo cfg (decodeWrite cfg width offset data) ⟨accessCmd 0b01#2 width offset, kept⟩
      ∧ ((decodeWrite cfg width offset data).isRefused = false → kept = data) := by
  by_cases notWord : (width != 0b00#2) = true
  · exact decodeWrite_of_notWordWidth notWord offset data ▸ ⟨_, ⟨notWord, rfl⟩, nofun⟩
  · obtain rfl : width = 0b00#2 := by simpa using notWord
    by_cases misaligned : (!wordAligned offset) = true
    · exact decodeWrite_of_misaligned data misaligned ▸ ⟨_, ⟨misaligned, rfl⟩, nofun⟩
    · have aligned : wordAligned offset = true := by simpa using misaligned
      refine ⟨data, ?_, fun _ => rfl⟩
      cases slot : slotAt cfg offset with
      | none =>
        exact decodeWrite_of_reserved data aligned slot ▸ ⟨by simp [Instr.wf, aligned, slot], rfl⟩
      | some _ => exact decodeWrite_of_mapped data aligned slot ▸ (mapped_encodes slot data).2

theorem dom_of_raiseLower {ev : BitVec 4} {dom : BitVec 3}
    (raiseLower : ev.toNat = 1 ∨ ev.toNat = 2) (good : ¬ badDomainFields ev dom = true) :
    dom = 0b010#3 ∨ dom = 0b011#3 ∨ dom = 0b100#3 ∨ dom = 0b101#3 := by
  rw [badDomainFields_iff, if_neg (by omega)] at good
  simp only [← BitVec.toNat_inj, BitVec.toNat_ofNat]
  omega

theorem dom_of_lineReset {ev : BitVec 4} {dom : BitVec 3} (lineReset : ev.toNat = 0 ∨ ev.toNat = 3)
    (good : ¬ badDomainFields ev dom = true) : dom = 0b000#3 := by
  rw [badDomainFields_iff, if_pos lineReset, not_not] at good
  exact BitVec.eq_of_toNat_eq good

theorem fields_of_not_badEvent {zeroHi : BitVec 2} {ev : BitVec 4} {zeroLo : BitVec 5}
    (good : ¬ badEventFields zeroHi ev zeroLo = true) :
    zeroHi = 0b00#2 ∧ zeroLo = 0b00000#5
      ∧ (ev = 0b0000#4 ∨ ev = 0b0001#4 ∨ ev = 0b0010#4 ∨ ev = 0b0011#4) := by
  rw [badEventFields_iff] at good
  simp only [← BitVec.toNat_inj, BitVec.toNat_ofNat]
  omega

theorem wf_of_badDomain {ev : BitVec 4} {dom : BitVec 3}
    (known : ev = 0b0000#4 ∨ ev = 0b0001#4 ∨ ev = 0b0010#4 ∨ ev = 0b0011#4)
    (bad : badDomainFields ev dom = true) :
    (decide (ev ≤ 0b0011#4) && badDomainFields ev dom) = true := by
  rw [bad, Bool.and_true]
  rcases known with rfl | rfl | rfl | rfl <;> rfl

/-- An event that is not refused is one of the ten of 30 R82 and R83; RAISE and LOWER keep the
operand. -/
theorem decodeEvent_encodes (cfg : Config) (zeroHi : BitVec 2) (ev : BitVec 4) (zeroLo : BitVec 5)
    (dom : BitVec 3) (data : Word) :
    ∃ kept, EncodesTo cfg (decodeEvent zeroHi ev zeroLo dom data)
        ⟨eventCmd zeroHi ev zeroLo dom, kept⟩
      ∧ ((decodeEvent zeroHi ev zeroLo dom data).isRefused = false →
        ev = 0b0001#4 ∨ ev = 0b0010#4 → kept = data) := by
  by_cases badEvent : badEventFields zeroHi ev zeroLo = true
  · exact decodeEvent_of_badEvent badEvent dom data ▸ ⟨_, ⟨badEvent, rfl⟩, nofun⟩
  obtain ⟨rfl, rfl, known⟩ := fields_of_not_badEvent badEvent
  by_cases badDomain : badDomainFields ev dom = true
  · rw [decodeEvent_of_badDomain (Bool.eq_false_iff.mpr badEvent) badDomain]
    exact ⟨_, ⟨wf_of_badDomain known badDomain, rfl⟩, nofun⟩
  rcases known with rfl | rfl | rfl | rfl
  · obtain rfl := dom_of_lineReset (.inl rfl) badDomain
    exact ⟨0#32, ⟨rfl, rfl⟩, by simp⟩
  · rcases dom_of_raiseLower (.inl rfl) badDomain with rfl | rfl | rfl | rfl <;>
      exact ⟨data, ⟨rfl, rfl⟩, fun _ _ => rfl⟩
  · rcases dom_of_raiseLower (.inr rfl) badDomain with rfl | rfl | rfl | rfl <;>
      exact ⟨data, ⟨rfl, rfl⟩, fun _ _ => rfl⟩
  · obtain rfl := dom_of_lineReset (.inr rfl) badDomain
    exact ⟨0#32, ⟨rfl, rfl⟩, by simp⟩

/-! ## The command is the fields it is read by -/

theorem accessCmd_of_fields (cmd : BitVec 16) :
    accessCmd (cmd.extractLsb' 14 2) (cmd.extractLsb' 12 2) (cmd.extractLsb' 0 12) = cmd := by
  have := cmd.isLt
  simp only [← BitVec.toNat_inj, accessCmd_toNat, BitVec.extractLsb'_toNat,
    Nat.shiftRight_eq_div_pow]
  omega

theorem eventCmd_of_fields {cmd : BitVec 16} (kind : cmd.extractLsb' 14 2 = 0b10#2) :
    eventCmd (cmd.extractLsb' 12 2) (cmd.extractLsb' 8 4) (cmd.extractLsb' 3 5)
      (cmd.extractLsb' 0 3) = cmd := by
  have := cmd.isLt
  rw [extractLsb'_eq_iff] at kind
  simp only [← BitVec.toNat_inj, eventCmd_toNat, BitVec.extractLsb'_toNat,
    Nat.shiftRight_eq_div_pow, BitVec.toNat_ofNat] at kind ⊢
  omega

theorem reservedKind_of_fields {cmd : BitVec 16} (kind : cmd.extractLsb' 14 2 = 0b11#2) :
    (0b11#2 ++ cmd.extractLsb' 0 14 : BitVec 16) = cmd := by
  have := cmd.isLt
  rw [extractLsb'_eq_iff] at kind
  simp only [← BitVec.toNat_inj, refusedKind_toNat, BitVec.extractLsb'_toNat,
    Nat.shiftRight_eq_div_pow, BitVec.toNat_ofNat] at kind ⊢
  omega

/-- Settles O51: KIND chooses the decoder, each of which encodes back to the fields it was given. -/
theorem everyCommandDecodesAndEncodesBack : Obligations.EveryCommandDecodesAndEncodesBack := by
  unfold Obligations.EveryCommandDecodesAndEncodesBack
  intro cfg t
  rcases decode_cases cfg t with ⟨kind, eq⟩ | ⟨kind, eq⟩ | ⟨kind, eq⟩ | ⟨kind, eq⟩ <;> rw [eq, kind]
  · obtain ⟨wf, encoded⟩ := decodeRead_encodes cfg (t.cmd.extractLsb' 12 2) (t.cmd.extractLsb' 0 12)
    rw [encoded, ← kind]
    exact ⟨wf, accessCmd_of_fields t.cmd, by simp [kind]⟩
  · obtain ⟨kept, ⟨wf, encoded⟩, whole⟩ :=
      decodeWrite_encodes cfg (t.cmd.extractLsb' 12 2) (t.cmd.extractLsb' 0 12) t.data
    rw [encoded, ← kind]
    exact ⟨wf, accessCmd_of_fields t.cmd, fun accepted _ => whole accepted⟩
  · obtain ⟨kept, ⟨wf, encoded⟩, whole⟩ := decodeEvent_encodes cfg (t.cmd.extractLsb' 12 2)
      (t.cmd.extractLsb' 8 4) (t.cmd.extractLsb' 3 5) (t.cmd.extractLsb' 0 3) t.data
    rw [encoded]
    refine ⟨wf, eventCmd_of_fields kind, fun accepted operand => whole accepted ?_⟩
    simpa using operand
  · exact ⟨rfl, reservedKind_of_fields kind, nofun⟩

/-! ## Words of the spec -/

/-- Settles O52: nine evaluations under the configuration of reset. -/
theorem wordsOfTheSpecDecode : Obligations.WordsOfTheSpecDecode := by
  unfold Obligations.WordsOfTheSpecDecode
  decide

end Sys2Proof

/-! PROOFS. The register writes and the domain pairs (40 R104 to R129, 41 R148 to R171), the
refused and the absent (30 R87, 60 R243). Each fixed register is one row of the map; the three
writes that can promote do so as `promoteOnWrite_of_nvf` and `promoteOnWrite_of_not_nvf` say. -/

namespace Sys2Proof.Machine

/-! ## The fixed registers -/

/-- Settles O2: four rows of the register map, two of them read-only. -/
theorem busUnitWritesAct : Obligations.BusUnitWritesAct := by
  unfold Obligations.BusUnitWritesAct
  exact ⟨writes_of_readOnly (offset := 0x000#12) rfl rfl fun _ _ => rfl,
    writes_of_mapped (offset := 0x004#12) rfl rfl fun _ _ => rfl,
    writes_of_readOnly (offset := 0x008#12) rfl rfl fun _ _ => rfl,
    writes_of_mapped (offset := 0x108#12) rfl rfl fun _ _ => rfl⟩

/-- Settles O5: seven rows of the register map. -/
theorem videoControlWritesStore : Obligations.VideoControlWritesStore := by
  unfold Obligations.VideoControlWritesStore
  exact ⟨writes_of_mapped (offset := 0x318#12) rfl rfl fun _ _ => rfl,
    writes_of_mapped (offset := 0x31C#12) rfl rfl fun _ _ => rfl,
    writes_of_mapped (offset := 0x320#12) rfl rfl fun _ _ => rfl,
    writes_of_mapped (offset := 0x324#12) rfl rfl fun _ _ => rfl,
    writes_of_mapped (offset := 0x328#12) rfl rfl fun _ _ => rfl,
    writes_of_mapped (offset := 0x32C#12) rfl rfl fun _ _ => rfl,
    writes_of_mapped (offset := 0x330#12) rfl rfl fun _ _ => rfl⟩

/-- Settles O10: the four rows of the video pair. -/
theorem videoPairReadsAnswer : Obligations.VideoPairReadsAnswer := by
  unfold Obligations.VideoPairReadsAnswer
  exact ⟨reads_of_mapped (offset := 0x338#12) rfl rfl fun _ => rfl,
    reads_of_mapped (offset := 0x33C#12) rfl rfl fun _ => rfl,
    reads_of_mapped (offset := 0x438#12) rfl rfl fun _ => rfl,
    reads_of_mapped (offset := 0x43C#12) rfl rfl fun _ => rfl⟩

/-- Settles O11: the four rows of the video pair. -/
theorem videoPairWritesSetAndClear : Obligations.VideoPairWritesSetAndClear := by
  unfold Obligations.VideoPairWritesSetAndClear
  exact ⟨writes_of_mapped (offset := 0x338#12) rfl rfl fun _ _ => rfl,
    writes_of_mapped (offset := 0x438#12) rfl rfl fun _ _ => rfl,
    writes_of_mapped (offset := 0x33C#12) rfl rfl fun _ _ => rfl,
    writes_of_mapped (offset := 0x43C#12) rfl rfl fun _ _ => rfl⟩

/-- Settles O13: the accesses are the operations of the domain, and a put reaches its own domain. -/
theorem collaboratorPairAccessesAct : Obligations.CollaboratorPairAccessesAct := by
  unfold Obligations.CollaboratorPairAccessesAct
  exact fun d s data => ⟨rfl, rfl, rfl, rfl, rfl, rfl, rfl, rfl, fun w e v => put_at w d.domain e v⟩

/-- Settles O16: each class is refused by the one operation of 60 R243. -/
theorem refusedTransactionsOnlySetRefused : Obligations.RefusedTransactionsOnlySetRefused := by
  unfold Obligations.RefusedTransactionsOnlySetRefused
  exact fun s rest width zeroHi offset ev zeroLo dom => ⟨rfl, rfl, rfl, rfl, rfl, rfl, rfl⟩

/-! ## Promotion on a write -/

theorem promoteOnWrite_of_nvf {s : State} (on : nvf s = true) : s.promoteOnWrite = s.promote :=
  if_pos on

theorem promoteOnWrite_of_not_nvf {s : State} (off : nvf s = false) : s.promoteOnWrite = s :=
  if_neg (Bool.eq_false_iff.mp off)

/-- A write of a fixed row, decoded. -/
theorem decode_write_of_mapped (cfg : Config) {offset : Offset} {slot : Slot} (data : Word)
    (aligned : wordAligned offset = true) (mapped : registerMap.lookup offset = some slot) :
    decode cfg ⟨accessCmd 0b01#2 0b00#2 offset, data⟩ = writeOf data slot :=
  (decode_write ..).trans (decodeWrite_of_mapped data aligned (slotAt_of_registerMap cfg mapped))

/-- Settles O7: NVF is read after the register is stored, so that a write of VID_DMACNTL goes by
the bit of its own DATA, and the promotion takes the field just written. -/
theorem descriptorWritesPromoteUnderNvf : Obligations.DescriptorWritesPromoteUnderNvf := by
  unfold Obligations.DescriptorWritesPromoteUnderNvf
  refine ⟨fun cfg data => ⟨decode_write_of_mapped cfg (offset := 0x30C#12) data rfl rfl,
    decode_write_of_mapped cfg (offset := 0x310#12) data rfl rfl,
    decode_write_of_mapped cfg (offset := 0x314#12) data rfl rfl⟩, fun _ => rfl, fun data s => ?_⟩
  refine ⟨fun off => ⟨?_, ?_⟩, fun on => ⟨?_, ?_⟩, fun off => ?_, fun on => ?_⟩
  · exact congrArg _ (promoteOnWrite_of_not_nvf (s := { s with nstart := data }) off)
  · exact congrArg _ (promoteOnWrite_of_not_nvf (s := { s with nsize := data }) off)
  · exact congrArg _ (promoteOnWrite_of_nvf (s := { s with nstart := data }) on)
  · exact congrArg _ (promoteOnWrite_of_nvf (s := { s with nsize := data }) on)
  · exact congrArg _ (promoteOnWrite_of_not_nvf (s := { s with dmacntl := data }) off)
  · exact congrArg _ (promoteOnWrite_of_nvf (s := { s with dmacntl := data }) on)

/-- Settles O8: sums and differences of words are those of their numbers modulo 2^32. -/
theorem cursorInitFollowsConvention : Obligations.CursorInitFollowsConvention := by
  unfold Obligations.CursorInitFollowsConvention
  intro start size hsize
  refine ⟨rfl, ?_, ?_⟩
  · simp only [cursorInit, bytesPerPixel, BitVec.toNat_sub, BitVec.toNat_add, BitVec.toNat_ofNat]
    omega
  · simp only [cursorInit, bytesPerPixel, BitVec.toNat_add, BitVec.toNat_mul, BitVec.toNat_ofNat]
    omega

/-! ## Absent domains -/

theorem pairWrite_of_absent {cfg : Config} {d : Collab} (absent : cfg.domainRegs.at d = none)
    (i : Instr) : pairWrite cfg (.collab d) i = [] :=
  if_neg (by simp [PairName.mapped, absent])

/-- Settles O55: each of the three is the write of a pair that has no registers. -/
theorem pseudoTransactionsOfAnAbsentDomain : Obligations.PseudoTransactionsOfAnAbsentDomain := by
  unfold Obligations.PseudoTransactionsOfAnAbsentDomain
  intro s d m absent p named
  have nothing : expand s.cfg p = [] := by
    simp only [List.mem_cons, List.not_mem_nil, or_false] at named
    rcases named with rfl | rfl | rfl
    · exact pairWrite_of_absent absent (.wrDomStatusC d m)
    · exact pairWrite_of_absent absent (.wrDomEnableS d m)
    · exact pairWrite_of_absent absent (.wrDomEnableC d m)
  rw [nothing]
  exact ⟨rfl, rfl⟩

end Sys2Proof.Machine

/-! PROOFS. Acknowledging and surfacing (60 R249, 70 section 3): a clear of every visible bit
leaves a domain not pending, and an enable set makes a latched bit visible. -/

namespace Sys2Proof.Machine

/-! ## The three ways of acknowledging -/

@[simp] theorem bit_not (v : Word) (i : Fin 32) : bit (~~~v) i = !bit v i := by
  simp [bit]

theorem pending_eq_false_iff (s : State) (d : Domain) :
    pending s d = false ↔ s.dstatus.at d &&& s.denable.at d = 0#32 := bne_eq_false_iff_eq

section Acknowledge
variable {s : State} {d : Domain} {data : Word}
  (covers : (s.dstatus.at d &&& s.denable.at d) &&& ~~~data = 0#32)
include covers

theorem not_pending_of_lower : pending (s.lower d data) d = false := by
  rw [pending_eq_false_iff, lower_at, if_pos rfl, lower_denable, BitVec.and_assoc,
    BitVec.and_comm (~~~data), ← BitVec.and_assoc, covers]

theorem not_pending_of_enableClear : pending (s.enableClear d data) d = false := by
  rw [pending_eq_false_iff, enableClear_at, if_pos rfl, enableClear_dstatus, ← BitVec.and_assoc,
    covers]

end Acknowledge

/-- With one bit of the global enable cleared, the line is held by the domains of the other bits. -/
theorem irq_of_genable_cleared (s : State) (i : Fin 32) :
    irq { s with genable := s.genable &&& ~~~mask i } = true
      ↔ ∃ e, s.cfg.gbit.at e ≠ i ∧ pending s e = true ∧ bit s.genable (s.cfg.gbit.at e) = true := by
  have samePending (e : Domain) :
      pending { s with genable := s.genable &&& ~~~mask i } e = pending s e := rfl
  simp only [irq_iff, samePending, bit_and, bit_not, bit_mask, Bool.and_eq_true, Bool.not_eq_true',
    decide_eq_false_iff_not]
  refine exists_congr fun e => ?_
  rw [← ne_eq, ne_comm (a := i)]
  tauto

/-- Settles O22: the two clears leave no visible bit, the global one leaves the other domains'
bits, and a write to INT_STATUS (clear) has nothing to clear. -/
theorem acknowledgeDeassertsTheLine : Obligations.AcknowledgeDeassertsTheLine := by
  unfold Obligations.AcknowledgeDeassertsTheLine
  intro s data
  refine ⟨fun covers => ⟨⟨_, rfl, ?_⟩, _, rfl, ?_⟩, fun d covers => ⟨⟨_, rfl, ?_⟩, _, rfl, ?_⟩,
    fun d => ⟨_, rfl, irq_of_genable_cleared s _⟩, _, rfl, rfl⟩
  · exact not_pending_of_lower (d := .video) covers
  · exact not_pending_of_enableClear (d := .video) covers
  · exact not_pending_of_lower covers
  · exact not_pending_of_enableClear covers

/-! ## Latched events -/

theorem bit_raise (s : State) (d : Domain) (i : Fin 32) :
    bit ((s.raise d (mask i)).dstatus.at d) i = true := by
  rw [raise_at, if_pos rfl, bit_or, bit_mask, decide_eq_true rfl, Bool.or_true]

theorem bit_visible (s : State) (d : Domain) (i : Fin 32) :
    bit (visible s d) i = (bit (s.dstatus.at d) i && bit (s.denable.at d) i) := bit_and ..

theorem pending_of_bit_visible {s : State} {d : Domain} {i : Fin 32}
    (shown : bit (visible s d) i = true) : pending s d = true := by
  rw [bit_visible, Bool.and_eq_true] at shown
  exact (pending_iff_exists_bit s d).mpr ⟨i, shown⟩

/-- A latched bit whose enable is set is visible. -/
theorem bit_visible_enableSet {s : State} {d : Domain} {i : Fin 32}
    (latched : bit (s.dstatus.at d) i = true) :
    bit (visible (s.enableSet d (mask i)) d) i = true := by
  rw [bit_visible, enableSet_at, if_pos rfl, enableSet_dstatus, latched, bit_or, bit_mask,
    decide_eq_true rfl, Bool.or_true, Bool.and_true]

/-- Settles O24: the enables mask the read alone, so that the bit latched by the raise is still
there when its enable is set. -/
theorem latchedEventsSurfaceWhenEnabled : Obligations.LatchedEventsSurfaceWhenEnabled := by
  unfold Obligations.LatchedEventsSurfaceWhenEnabled
  intro s i m
  have latched := bit_raise s .video i
  have shown : bit (visible (((s.raise .video (mask i)).enableClear .video m).enableSet .video
      (mask i)) .video) i = true := bit_visible_enableSet latched
  refine ⟨_, _, _, rfl, latched, fun disabled => ?_, rfl, rfl, rfl, shown,
    pending_of_bit_visible shown⟩
  rw [bit_visible, Bool.and_eq_false_iff]
  exact .inr disabled

end Sys2Proof.Machine

/-! PROOFS. The host's stores and the window of reset (20 R72, 42 R221). -/

namespace Sys2Proof.Machine

/-! ## A store and the reads after it -/

/-- In canonical form nothing is listed twice, so that a store decides its own address alone. -/
theorem read_write (a b : Nat) (v : Byte) : ∀ {lo : Nat} {m : Memory}, Memory.wfFrom lo m = true →
    Memory.read (Memory.write m a v) b = if b = a then v else Memory.read m b
  | _, [], _ => read_cons rfl
  | lo, (c, w) :: rest, wf => by
    simp only [Memory.wfFrom, Bool.and_eq_true, decide_eq_true_eq] at wf
    obtain ⟨⟨⟨_, inSpace⟩, listed⟩, tail⟩ := wf
    have whole : Memory.wfFrom c ((c, w) :: rest) = true := by
      simp [Memory.wfFrom, inSpace, listed, tail]
    by_cases before : a < c
    · rw [Memory.write, if_pos before, read_cons (read_below before whole)]
    by_cases here : a = c
    · subst here
      rw [Memory.write, if_neg before, if_pos rfl, read_cons (read_below (Nat.lt_succ_self a) tail)]
      split_ifs with own
      · rfl
      · rw [Memory.read, if_neg own]
    · rw [Memory.write, if_neg before, if_neg here, Memory.read, Memory.read, read_write a b v tail]
      by_cases first : b = c
      · rw [if_pos first, if_pos first, if_neg (by omega)]
      · rw [if_neg first, if_neg first]

theorem unpack_wordOfBytes_big (b0 b1 b2 b3 : Byte) :
    unpack (wordOfBytes .big b0 b1 b2 b3) = ⟨b0, b1, b2, b3⟩ := unpack_append ..

/-- Byte `k` of a big-endian word is the byte at its `k`th address (20 R63). -/
theorem memRead_big_byte (m : Memory) (a : Word) (k : Fin 4) :
    (memRead .big m a).extractLsb' (24 - 8 * k.val) 8 = Memory.read m (a.toNat + k.val) := by
  have bytes : unpack (memRead .big m a) = _ := unpack_wordOfBytes_big ..
  match k with
  | 0 => exact congrArg PairSamples.y1 bytes
  | 1 => exact congrArg PairSamples.cb bytes
  | 2 => exact congrArg PairSamples.y2 bytes
  | 3 => exact congrArg PairSamples.cr bytes

/-- Settles O31: the store is a `Memory.write`, whose address is byte `k` of the aligned word. -/
theorem hostStoresAreSeenByFetches : Obligations.HostStoresAreSeenByFetches := by
  unfold Obligations.HostStoresAreSeenByFetches
  intro s addr value wf t
  have stored (a : Nat) :
      Memory.read t.mem a = if a = addr.toNat then value else Memory.read s.mem a :=
    read_write addr.toNat a value wf
  refine ⟨stored, hostStore_wf addr value wf, fun k place => ?_⟩
  have address : (addr - BitVec.ofNat 32 k.val).toNat + k.val = addr.toNat := by
    have := addr.isLt
    have := k.isLt
    rw [BitVec.toNat_sub, BitVec.toNat_ofNat]
    omega
  rw [memRead_big_byte, address, stored, if_pos rfl]

/-! ## The window with all raw registers 0 -/

theorem clamp1_zero (dim align : Nat) : clamp1 0 0 dim align = (0, 0) :=
  clamp1_of_clamped ⟨rfl, Nat.zero_mod align, Nat.zero_le dim⟩

/-- Settles O35: the window is two clamped pairs, and a window of no size contains nothing. -/
theorem resetWindowContainsNoPixel : Obligations.ResetWindowContainsNoPixel := by
  unfold Obligations.ResetWindowContainsNoPixel
  refine ⟨fun s => ⟨rfl, rfl⟩, fun s x y hstart hsize vstart vsize => ?_⟩
  have empty : window s = ⟨0, 0, 0, 0⟩ := by
    simp [window, hstart, hsize, vstart, vsize, clamp1_zero]
  refine ⟨empty, ?_⟩
  rw [empty, contains_eq_false_iff]
  dsimp only
  omega

end Sys2Proof.Machine

/-! PROOFS. What a transaction leaves unchanged (20 R62, 42 R190, 60 R241, R243, R258).
`lineStep_frame` lists the fields that a line step can reach and `RegisterStep` says what every
other transaction but RESET keeps. -/

namespace Sys2Proof.Machine

/-! ## The fields that a line step can reach -/

theorem hsyncMatch_frame (s : State) (y : Nat) :
    ∃ dstatus, s.hsyncMatch y = { s with dstatus := dstatus } := by
  rcases hsyncMatch_cases s y with ⟨-, raised⟩ | ⟨-, same⟩
  · exact ⟨_, raised⟩
  · exact ⟨_, same⟩

theorem lineBegin_frame (s : State) :
    ∃ cstart csize cvalid cursor dstatus, s.lineBegin = { s with
      cstart := cstart, csize := csize, cvalid := cvalid, cursor := cursor
      dstatus := dstatus } := by
  rcases lineBegin_cases s with ⟨-, -, promoted⟩ | ⟨-, same⟩
  · obtain ⟨dstatus, matched⟩ := hsyncMatch_frame s.promote s.line
    exact ⟨_, _, _, _, dstatus, promoted.trans matched⟩
  · obtain ⟨dstatus, matched⟩ := hsyncMatch_frame s s.line
    exact ⟨_, _, _, _, dstatus, same.trans matched⟩

theorem lineEnd_frame (s : State) :
    ∃ dstatus published field line, s.lineEnd = { s with
      dstatus := dstatus, output := s.output ++ published, field := field, line := line } := by
  rcases lineEnd_cases s with ⟨-, frame⟩ | ⟨-, next⟩
  · exact ⟨_, _, _, _, frame⟩
  · exact ⟨_, [], _, _, by rw [next, List.append_nil]⟩

theorem lineStep_frame (s : State) :
    ∃ cstart csize cvalid cursor dstatus published field line fb faults, s.lineStep = { s with
      cstart := cstart, csize := csize, cvalid := cvalid, cursor := cursor, dstatus := dstatus
      output := s.output ++ published, field := field, line := line, fb := fb
      faults := faults } := by
  rcases lineStep_cases s with ⟨-, same⟩ | ⟨-, f, -, recorded⟩ | ⟨-, t, row, ended⟩
  · exact ⟨_, _, _, _, _, [], _, _, _, _, by rw [same, List.append_nil]⟩
  · exact ⟨_, _, _, _, _, [], _, _, _, _, by rw [recorded, List.append_nil]; rfl⟩
  · obtain ⟨cstart, csize, cvalid, cursor, dstatus, begun⟩ := lineBegin_frame s
    obtain ⟨fb, cursor', rfl⟩ := lineRow_withRow row
    obtain ⟨dstatus', published, field, line, last⟩ :=
      lineEnd_frame (s.lineBegin.withRow fb cursor')
    rw [begun] at last
    exact ⟨cstart, csize, cvalid, cursor', dstatus', published, field, line, fb, _,
      by rw [ended, begun, last]; rfl⟩

/-! ## The row and the descriptor -/

@[simp] theorem lineEnd_fb (s : State) : s.lineEnd.fb = s.fb := by
  obtain ⟨dstatus, published, field, line, ended⟩ := lineEnd_frame s
  rw [ended]

/-- The frame `fb` is that of `s` but for the row of the line. -/
def OnlyItsRow (s : State) (fb : Frame) : Prop := fb = s.fb ∨ ∃ row, fb = s.fb.set s.line row

theorem OnlyItsRow.getElem? {s : State} {fb : Frame} (only : OnlyItsRow s fb) {y : Nat}
    (other : y ≠ s.line) : fb[y]? = s.fb[y]? := by
  rcases only with rfl | ⟨row, rfl⟩
  · rfl
  · exact List.getElem?_set_ne other.symm

theorem lineRow_onlyItsRow {s t : State} (ok : s.lineRow = .ok t) : OnlyItsRow s t.fb := by
  rcases lineRow_cases s with ⟨-, row⟩ | ⟨-, noRow⟩
  · obtain ⟨cells, a, -, rfl⟩ := produceRow_ok (row ▸ ok)
    exact .inr ⟨cells, rfl⟩
  · cases noRow.symm.trans ok
    exact .inl rfl

theorem lineStep_onlyItsRow (s : State) : OnlyItsRow s s.lineStep.fb := by
  rcases lineStep_cases s with ⟨-, same⟩ | ⟨-, f, -, recorded⟩ | ⟨-, t, row, ended⟩
  · exact .inl (by rw [same])
  · exact .inl (by rw [recorded, recordFault_fb])
  · have only := lineRow_onlyItsRow row
    rwa [OnlyItsRow, lineBegin_fb, lineBegin_line, ← lineEnd_fb t, ← ended] at only

/-- The descriptor of `t` is the current one of `s`, or the next one, promoted on line 0 under NV.
-/
def DescriptorInForce (s t : State) : Prop :=
  (t.cstart = s.cstart ∧ t.csize = s.csize ∧ t.cvalid = s.cvalid)
    ∨ (s.line = 0 ∧ nv s = true ∧ t.cstart = s.nstart ∧ t.csize = s.nsize ∧ t.cvalid = true)

theorem lineBegin_descriptorInForce (s : State) : DescriptorInForce s s.lineBegin := by
  rcases lineBegin_cases s with ⟨first, promotes, promoted⟩ | ⟨-, same⟩
  · exact .inr ⟨first, promotes, by simp [promoted]⟩
  · exact .inl (by simp [same])

theorem DescriptorInForce.trans_same {s t u : State} (begun : DescriptorInForce s t)
    (same : SameCurrent t u) : DescriptorInForce s u := by
  obtain ⟨cstart, csize, cvalid, -⟩ := same
  rwa [DescriptorInForce, cstart, csize, cvalid]

theorem lineStep_descriptorInForce (s : State) : DescriptorInForce s s.lineStep := by
  rcases lineStep_cases s with ⟨-, same⟩ | ⟨-, f, -, recorded⟩ | ⟨-, t, row, ended⟩
  · exact .inl (by simp [same])
  · exact .inl (by simp [recorded])
  · obtain ⟨fb, cursor, rfl⟩ := lineRow_withRow row
    have begun : DescriptorInForce s (s.lineBegin.withRow fb cursor) :=
      lineBegin_descriptorInForce s
    exact ended ▸ begun.trans_same (lineEnd_sameCurrent _)

/-- Settles O45: what a line step can reach is listed, and of its frame and descriptor the one row
and the one promotion. -/
theorem lineStepFrame : Obligations.LineStepFrame := by
  unfold Obligations.LineStepFrame
  rintro s t ⟨⟩
  have only := lineStep_onlyItsRow s
  have inForce := lineStep_descriptorInForce s
  obtain ⟨_, _, _, _, _, _, _, _, _, _, step⟩ := lineStep_frame s
  rw [step] at only inForce ⊢
  exact ⟨rfl, rfl, rfl, rfl, rfl, rfl, rfl, rfl, rfl, rfl, rfl, rfl, rfl, rfl, rfl, rfl, rfl, rfl,
    fun _ => only.getElem?, inForce⟩

/-- Settles O43: a line step begins with the test of `faults`. -/
theorem faultedStateTakesNoLineStep : Obligations.FaultedStateTakesNoLineStep := by
  unfold Obligations.FaultedStateTakesNoLineStep
  intro s faulted
  have same : s.lineStep = s := if_neg faulted
  exact congrArg _ same

/-! ## Every other transaction -/

theorem exec_total (i : Instr) (s : State) : ∃ t, exec i s = .next t := by
  cases i <;> exact ⟨_, rfl⟩

/-- What a register transaction, a collaborator's event or a refusal keeps: it hands out at most the
results of reads, and no line is produced. -/
structure RegisterStep (s t : State) : Prop where
  mem : t.mem = s.mem
  inbox : t.inbox = s.inbox
  line : t.line = s.line
  fb : t.fb = s.fb
  output : ∃ results : List Word, t.output = s.output ++ results.map .readResult

theorem respond_registerStep (s : State) (v : Word) : RegisterStep s (s.respond v) :=
  ⟨rfl, rfl, rfl, rfl, [v], rfl⟩

theorem RegisterStep.promoteOnWrite {s w : State} (stored : RegisterStep s w) :
    RegisterStep s w.promoteOnWrite := by
  obtain ⟨mem, inbox, line, fb, results, output⟩ := stored
  exact ⟨(promoteOnWrite_mem w).trans mem, (promoteOnWrite_inbox w).trans inbox,
    (promoteOnWrite_line w).trans line, (promoteOnWrite_fb w).trans fb, results,
    (promoteOnWrite_output w).trans output⟩

theorem RegisterStep.quiet {s t : State} (mem : t.mem = s.mem) (inbox : t.inbox = s.inbox)
    (line : t.line = s.line) (fb : t.fb = s.fb) (output : t.output = s.output) : RegisterStep s t :=
  ⟨mem, inbox, line, fb, [], by simp [output]⟩

theorem exec_read_registerStep {i : Instr} {s t : State} (isRead : i.isRead = true)
    (next : exec i s = .next t) : RegisterStep s t := by
  rcases exec_read_cases isRead with ⟨offset, rfl⟩ | ⟨-, value, -, answers⟩
  · cases next
    exact ⟨rfl, rfl, rfl, rfl, [0#32], rfl⟩
  · cases (answers s).symm.trans next
    exact respond_registerStep s _

theorem exec_registerStep {i : Instr} {s t : State} (notLine : i ≠ .line) (notReset : i ≠ .reset)
    (next : exec i s = .next t) : RegisterStep s t := by
  cases isRead : i.isRead with
  | true => exact exec_read_registerStep isRead next
  | false =>
    cases i with
    | line => exact absurd rfl notLine
    | reset => exact absurd rfl notReset
    | wrVidNstart | wrVidNsize | wrVidDmacntl =>
      cases next
      exact RegisterStep.promoteOnWrite (.quiet rfl rfl rfl rfl rfl)
    | _ => cases isRead <;> (cases next; exact .quiet rfl rfl rfl rfl rfl)

/-- Settles O27: a line step and RESET reach neither memory nor the inputs, and no transaction
takes back what was handed out. -/
theorem blockNeverWritesHostMemory : Obligations.BlockNeverWritesHostMemory := by
  unfold Obligations.BlockNeverWritesHostMemory
  intro i s
  obtain ⟨t, next⟩ := exec_total i s
  refine ⟨t, next, ?_⟩
  by_cases isLine : i = .line
  · subst isLine
    cases next
    obtain ⟨_, _, _, _, _, published, _, _, _, _, step⟩ := lineStep_frame s
    rw [step]
    exact ⟨rfl, rfl, rfl, published, rfl⟩
  by_cases isReset : i = .reset
  · subst isReset
    cases next
    exact ⟨rfl, rfl, rfl, [], (List.append_nil _).symm⟩
  · obtain ⟨mem, inbox, -, -, results, output⟩ := exec_registerStep isLine isReset next
    exact ⟨mem, exec_cfg next, inbox, _, output⟩

/-! ## What stays recorded -/

theorem lineStep_keepsFaults {s : State} {f : FaultRecord} (recorded : f ∈ s.faults) :
    f ∈ s.lineStep.faults := by
  rcases lineStep_cases s with ⟨-, same⟩ | ⟨clean, -⟩ | ⟨clean, -⟩
  · rwa [same]
  · simp [clean] at recorded
  · simp [clean] at recorded

theorem lineStep_keepsCvalid {s : State} (valid : s.cvalid = true) : s.lineStep.cvalid = true := by
  rcases lineStep_descriptorInForce s with ⟨-, -, same⟩ | ⟨-, -, -, -, promoted⟩
  · rw [same, valid]
  · exact promoted

theorem exec_keepsCvalid {i : Instr} {s t : State} (next : exec i s = .next t)
    (notReset : i ≠ .reset) (valid : s.cvalid = true) : t.cvalid = true := by
  by_cases isLine : i = .line
  · subst isLine
    cases next
    exact lineStep_keepsCvalid valid
  · rcases onlyPromotionChangesCurrentDescriptor i s t next isLine notReset with
      ⟨-, -, same, -⟩ | ⟨-, -, -, -, promoted, -⟩
    · rw [same, valid]
    · exact promoted

theorem exec_refused {i : Instr} {s t : State} (refused : i.isRefused = true)
    (next : exec i s = .next t) : t.refused = true := by
  cases i <;> cases refused
  all_goals
    cases next
    rfl

theorem exec_not_refused {i : Instr} {s t : State} (accepted : i.isRefused = false)
    (next : exec i s = .next t) : t.refused = s.refused := by
  cases i with
  | line =>
    cases next
    obtain ⟨_, _, _, _, _, _, _, _, _, _, step⟩ := lineStep_frame s
    rw [step]
  | wrVidNstart | wrVidNsize | wrVidDmacntl => cases next; exact promoteOnWrite_refused _
  | _ => cases accepted <;> (cases next; rfl)

/-- Settles O28: LINE alone records a fault, a refusal alone sets refused, and of what reaches
cvalid RESET alone clears it. -/
theorem faultsAndRefusalsStayRecorded : Obligations.FaultsAndRefusalsStayRecorded := by
  unfold Obligations.FaultsAndRefusalsStayRecorded
  intro i s
  obtain ⟨t, next⟩ := exec_total i s
  refine ⟨t, next, fun f recorded => ?_, fun notLine => exec_faults notLine next,
    fun wasRefused => ?_, fun accepted => exec_not_refused accepted next,
    fun valid notReset => exec_keepsCvalid next notReset valid⟩
  · by_cases isLine : i = .line
    · subst isLine
      cases next
      exact lineStep_keepsFaults recorded
    · rwa [exec_faults isLine next]
  · cases refused : i.isRefused with
    | true => exact exec_refused refused next
    | false => rw [exec_not_refused refused next, wasRefused]

/-! ## The step -/

/-- Settles O29: each case of the step answers. -/
theorem everyInputHasANextState : Obligations.EveryInputHasANextState := by
  unfold Obligations.EveryInputHasANextState
  intro s
  rcases step_cases s with ⟨-, idle⟩ | ⟨_, _, _, -, stored⟩ | ⟨x, rest, -, ran⟩
  · exact ⟨s, idle⟩
  · exact ⟨_, stored⟩
  · exact ran ▸ exec_total _ _

theorem step_of_transaction {s : State} {x : Transaction} {rest : List Input}
    (waits : s.inbox = .transaction x :: rest) :
    step s = exec (decode s.cfg x) { s with inbox := rest } := by
  rw [step, takeInput, waits]

theorem step_of_hostStore {s : State} {addr : Word} {value : Byte} {rest : List Input}
    (waits : s.inbox = .hostStore addr value :: rest) :
    step s = .next (hostStore addr value { s with inbox := rest }) := by
  rw [step, takeInput, waits]

theorem step_idle {s : State} (waits : s.inbox = []) : step s = .next s := by
  rw [step, takeInput, waits]

/-- Settles O30: the first input decides the case of the step. -/
theorem stepRunsTheNextInput : Obligations.StepRunsTheNextInput := by
  unfold Obligations.StepRunsTheNextInput
  refine fun s => ⟨fun x rest i waits decodes _ => ?_, fun _ _ _ => step_of_hostStore, step_idle⟩
  rw [step_of_transaction waits, decodes]

end Sys2Proof.Machine

/-! PROOFS. The row of a line step (42 R190 to R198). `lineBegin_current` gives the descriptor and
cursor in force on any line, and `lineStep_of_row` the step over a produced row. A row of no
active pair is one colour (`pairCells_unfetched`); a row that fetches shows `shownWord` at each of
its pairs. -/

namespace Sys2Proof.Machine

/-! ## The start and the end of the step -/

/-- The next descriptor is promoted in this step: line 0 under NV (42 R191). -/
def State.promotesNow (s : State) : Bool := decide (s.line = 0) && nv s

/-- The descriptor and cursor in force on a line: the promoted ones, or the current ones. -/
theorem lineBegin_current (s : State) :
    s.lineBegin.cstart = (if s.promotesNow then s.nstart else s.cstart)
      ∧ s.lineBegin.csize = (if s.promotesNow then s.nsize else s.csize)
      ∧ s.lineBegin.cvalid = (s.cvalid || s.promotesNow)
      ∧ s.lineBegin.cursor = if s.promotesNow then
          cursorInit s.cfg.cursorInit s.nstart s.nsize (window s).hsize else s.cursor := by
  rcases lineBegin_cases s with ⟨first, promotes, promoted⟩ | ⟨stays, same⟩
  · simp [promoted, State.promotesNow, first, promotes]
  · have notNow : s.promotesNow = false := by
      rw [State.promotesNow, Bool.eq_false_iff]
      simpa using stays
    simp [same, notNow]

theorem fetchEnabled_lineBegin_eq (s : State) :
    fetchEnabled s.lineBegin = (vidEnab s && dmaEn s && (s.cvalid || s.promotesNow)) := by
  obtain ⟨-, -, valid, -⟩ := lineBegin_current s
  have same := lineBegin_sameSetup s
  simp only [fetchEnabled, vidEnab, dmaEn, same.fcntl, same.dmacntl, valid]

theorem unfetchedWord_lineBegin (s : State) : unfetchedWord s.lineBegin = unfetchedWord s := by
  have sameEnable : blnkColEn s.lineBegin = blnkColEn s := by
    rw [blnkColEn, lineBegin_fcntl, blnkColEn]
  rw [unfetchedWord, sameEnable, lineBegin_blnkcol, unfetchedWord]

/-- A line step whose row is produced ends over the row. -/
theorem lineStep_of_row {s t : State} (clean : s.faults = []) (row : s.lineBegin.lineRow = .ok t) :
    s.lineStep = t.lineEnd := by
  rw [State.lineStep, if_pos clean, row]

theorem lineEnd_of_not_last {s : State} (notLast : s.line ≠ s.cfg.totalLines - 1) :
    s.lineEnd = { s with line := s.line + 1 } := if_neg notLast

/-- A row of visible cells, produced. -/
theorem lineRow_of_cells {s : State} {cells : List (Option Rgb)} {a : Word}
    (visible : s.line < s.cfg.screenHeight)
    (produced : pairCells s (window s) s.line (s.cfg.screenWidth / 2) 0 s.cursor = .ok (cells, a)) :
    s.lineRow = .ok (s.withRow (s.fb.set s.line cells) a) := by
  rw [State.lineRow, if_pos visible, produceRow, produced]
  rfl

/-- What a line step makes of a produced row: no fault, the row in its place, and the cursor after
it. -/
theorem lineStep_of_cells {s : State} {cells : List (Option Rgb)} {a : Word} (clean : s.faults = [])
    (visible : s.line < s.cfg.screenHeight)
    (produced : pairCells s.lineBegin (window s) s.line (s.cfg.screenWidth / 2) 0 s.lineBegin.cursor
      = .ok (cells, a)) :
    s.lineStep.faults = [] ∧ s.lineStep.fb = s.fb.set s.line cells ∧ s.lineStep.cursor = a := by
  have same := lineBegin_sameSetup s
  have row := lineRow_of_cells (s := s.lineBegin) (cells := cells) (a := a)
    (by rwa [lineBegin_line, same.cfg]) (by rwa [same.window, lineBegin_line, same.cfg])
  obtain ⟨-, -, -, cursor⟩ := lineEnd_sameCurrent
    (s.lineBegin.withRow (s.lineBegin.fb.set s.lineBegin.line cells) a)
  refine ⟨lineStep_faults_of_row clean row, ?_, ?_⟩
  · rw [lineStep_of_row clean row, lineEnd_fb, withRow_fb, lineBegin_fb, lineBegin_line]
  · rw [lineStep_of_row clean row, cursor]
    rfl

/-! ## Beyond the screen -/

/-- Settles O40: only the line match is left of the step. -/
theorem lineBeyondTheScreenProducesNoPixels : Obligations.LineBeyondTheScreenProducesNoPixels := by
  unfold Obligations.LineBeyondTheScreenProducesNoPixels
  intro s wf clean beyond notLast
  obtain ⟨⟨-, -, someRow, -⟩, -⟩ := wf
  have begun : s.lineBegin = s.hsyncMatch s.line := by
    rw [State.lineBegin, if_neg (by omega)]
  have noRow : s.lineBegin.lineRow = .ok s.lineBegin := by
    rw [State.lineRow, lineBegin_line, lineBegin_cfg, if_neg (by omega)]
  have ended : s.lineBegin.lineEnd = { s.lineBegin with line := s.lineBegin.line + 1 } :=
    lineEnd_of_not_last (by rw [lineBegin_line, lineBegin_cfg]; omega)
  have step : s.lineStep = { s.hsyncMatch s.line with line := (s.hsyncMatch s.line).line + 1 } := by
    rw [lineStep_of_row clean noRow, ended, begun]
  refine congrArg Host.Outcome.next (step.trans ?_)
  rcases hsyncMatch_cases s s.line with ⟨onLine, raised⟩ | ⟨offLine, same⟩
  · rw [raised, if_pos onLine]
    rfl
  · rw [same, if_neg offLine]

/-! ## A row of unfetched pairs -/

/-- The colour of the pixels that are not fetched (42 R197, R198). -/
def unfetchedPixel (s : State) : Rgb := (pairPixels s.cfg.csc (unfetchedWord s)).1

theorem unpack_unfetchedWord (s : State) :
    unpack (unfetchedWord s) = if blnkColEn s then
        ⟨s.blnkcol.extractLsb' 16 8, s.blnkcol.extractLsb' 8 8, s.blnkcol.extractLsb' 16 8,
          s.blnkcol.extractLsb' 0 8⟩
      else ⟨0#8, 0#8, 0#8, 0#8⟩ := by
  unfold unfetchedWord
  split_ifs
  · exact (blankPairUnpacksToTheBlankingColor.1 s.blnkcol).2
  · rfl

theorem unfetchedPixel_eq (s : State) :
    unfetchedPixel s = if blnkColEn s then csc s.cfg.csc (s.blnkcol.extractLsb' 16 8)
        (s.blnkcol.extractLsb' 8 8) (s.blnkcol.extractLsb' 0 8)
      else csc s.cfg.csc 0#8 0#8 0#8 := by
  rw [unfetchedPixel, pairPixels, unpack_unfetchedWord]
  split_ifs <;> rfl

/-- An unfetched pair has its luma twice, so that its two pixels are the same. -/
theorem pairPixels_unfetchedWord (s : State) :
    pairPixels s.cfg.csc (unfetchedWord s) = (unfetchedPixel s, unfetchedPixel s) := by
  rw [unfetchedPixel, pairPixels, unpack_unfetchedWord]
  split_ifs <;> rfl

theorem pairCells_unfetched {s : State} {w : ActiveWindow} {y : Nat}
    (unfetched : ∀ x, (fetchEnabled s && w.contains x y) = false) (n x : Nat) (a : Word) :
    pairCells s w y n x a = .ok (List.replicate (2 * n) (some (unfetchedPixel s)), a) := by
  induction n generalizing x with
  | zero => rfl
  | succ n ih =>
    have pair : pairWord s w y x a = .ok (unfetchedWord s, a) := by
      rw [pairWord, unfetched, if_neg Bool.false_ne_true]
    simp only [pairCells, pair, ih, pairPixels_unfetchedWord]
    rfl

theorem not_contains_of_outside {w : ActiveWindow} {y : Nat}
    (outside : y < w.vstart ∨ w.vstart + w.vsize ≤ y ∨ w.hsize = 0) (x : Nat) :
    w.contains x y = false := by
  rw [contains_eq_false_iff]
  omega

/-- Settles O39: no pair of the row is fetched, so that every cell has the one colour and the
cursor stays where the start of the step put it. -/
theorem lineWithoutFetchBlanksTheRow : Obligations.LineWithoutFetchBlanksTheRow := by
  unfold Obligations.LineWithoutFetchBlanksTheRow
  refine ⟨fun cfg data => decode_event cfg 0b00#2 0b0000#4 0b00000#5 0b000#3 data, ?_⟩
  intro s wf clean visible noFetch
  have unfetched (x : Nat) :
      (fetchEnabled s.lineBegin && (window s).contains x s.line) = false := by
    rw [Bool.and_eq_false_iff, fetchEnabled_lineBegin_eq]
    exact noFetch.imp_right fun outside => not_contains_of_outside outside x
  have samePixel : unfetchedPixel s.lineBegin = unfetchedPixel s := by
    rw [unfetchedPixel, unfetchedWord_lineBegin, lineBegin_cfg, unfetchedPixel]
  obtain ⟨⟨-, widthEven, -⟩, -⟩ := id wf
  obtain ⟨noFault, fb, cursor⟩ :=
    lineStep_of_cells clean visible (pairCells_unfetched unfetched _ _ _)
  rw [Nat.mul_div_cancel' (Nat.dvd_of_mod_eq_zero widthEven), samePixel, unfetchedPixel_eq] at fb
  obtain ⟨-, -, -, inForce⟩ := lineBegin_current s
  refine ⟨_, rfl, noFault, lineStep_mem s, fb, ?_, ?_⟩
  · rw [cursor, inForce, State.promotesNow]
    simp
  · rcases lineStep_progress (totalLines_pos wf) noFault with ⟨last, line, -⟩ | ⟨notLast, line, -⟩
    · rw [line, if_pos last]
    · rw [line, if_neg notLast]

/-! ## A row that fetches -/

/-- The word that the pair at the even position `x` shows, on a line whose first fetch is at `a`. -/
def shownWord (s : State) (w : ActiveWindow) (y : Nat) (a : Word) (x : Nat) : Word :=
  if w.contains x y then memRead s.cfg.byteOrder s.mem (a + BitVec.ofNat 32 (rowBytes w y x))
  else unfetchedWord s

theorem fetch_ok_word {s : State} {a a' v : Word} (ok : fetch s a = .ok (v, a')) :
    v = memRead s.cfg.byteOrder s.mem a := by
  rcases fetch_cases s a with ⟨-, -, fetched⟩ | ⟨-, misaligned⟩ | ⟨-, -, overrun⟩
  · cases fetched.symm.trans ok
    rfl
  · cases misaligned.symm.trans ok
  · cases overrun.symm.trans ok

section Row
variable {s : State} {w : ActiveWindow} (enabled : fetchEnabled s = true)
include enabled

theorem pairWord_ok_word {y x : Nat} {a a' v : Word}
    (ok : pairWord s w y x (a + BitVec.ofNat 32 (rowBytes w y x)) = .ok (v, a')) :
    v = shownWord s w y a x := by
  rw [shownWord]
  rcases pairWord_cases s w y x (a + BitVec.ofNat 32 (rowBytes w y x)) with
    ⟨active, fetched⟩ | ⟨inactive, unfetched⟩
  · rw [enabled, Bool.true_and] at active
    rw [fetch_ok_word (fetched.symm.trans ok), if_pos active]
  · rw [enabled, Bool.true_and] at inactive
    cases unfetched.symm.trans ok
    rw [inactive, if_neg Bool.false_ne_true]

/-- Along a row that faults nowhere, pair `j` shows its word. -/
theorem pairCells_ok_cells (sizeEven : w.hsize % 2 = 0) {y n x : Nat} (even : x % 2 = 0)
    {a b : Word} {cells : List (Option Rgb)}
    (ok : pairCells s w y n x (a + BitVec.ofNat 32 (rowBytes w y x)) = .ok (cells, b)) {j : Nat}
    (among : j < n) :
    cells[2 * j]? = some (some (pairPixels s.cfg.csc (shownWord s w y a (x + 2 * j))).1)
      ∧ cells[2 * j + 1]?
        = some (some (pairPixels s.cfg.csc (shownWord s w y a (x + 2 * j))).2) := by
  induction n generalizing x cells j with
  | zero => omega
  | succ n ih =>
    obtain ⟨v, a', rest, pair, tail, rfl⟩ := pairCells_succ_ok ok
    cases j with
    | zero => simp [pairWord_ok_word enabled pair]
    | succ j =>
      rw [pairWord_ok_cursor enabled sizeEven even pair] at tail
      have later : x + 2 + 2 * j = x + 2 * (j + 1) := by omega
      exact later ▸ ih (by omega) tail (Nat.lt_of_succ_lt_succ among)

end Row

/-- A row has two cells for each pair, whether they are fetched or not. -/
theorem pairCells_ok_length {s : State} {w : ActiveWindow} {y n x : Nat} {a b : Word}
    {cells : List (Option Rgb)} (ok : pairCells s w y n x a = .ok (cells, b)) :
    cells.length = 2 * n := by
  induction n generalizing x a cells with
  | zero => cases ok; rfl
  | succ n ih =>
    obtain ⟨v, a', rest, -, tail, rfl⟩ := pairCells_succ_ok ok
    simp only [List.length_cons, ih tail]
    omega

/-! ## The word at each position -/

section Shown
variable {w : ActiveWindow} (sizeEven : w.hsize % 2 = 0) {y : Nat}
include sizeEven

/-- Pair `k` of the window shows the word at byte `4 * k` from the first fetch. -/
theorem shownWord_inside (s : State) (above : w.vstart ≤ y) (below : y < w.vstart + w.vsize)
    (a : Word) {k : Nat} (inside : 2 * k < w.hsize) :
    shownWord s w y a (w.left + 2 * k)
      = memRead s.cfg.byteOrder s.mem (a + BitVec.ofNat 32 (4 * k)) := by
  have active : w.contains (w.left + 2 * k) y = true := by
    rw [contains_iff, ActiveWindow.left]
    omega
  have crosses : w.crosses y = true := by
    rw [ActiveWindow.crosses, decide_eq_true above, decide_eq_true below, Bool.and_true]
  have bytes : rowBytes w y (w.left + 2 * k) = 4 * k := by
    rw [rowBytes, if_pos crosses]
    omega
  rw [shownWord, if_pos active, bytes]

theorem shownWord_outside (s : State) (a : Word) {x : Nat} (even : x % 2 = 0)
    (outside : x < w.left ∨ w.left + w.hsize ≤ x) : shownWord s w y a x = unfetchedWord s := by
  have inactive : w.contains x y = false := by
    rw [ActiveWindow.left] at outside
    rw [contains_eq_false_iff]
    omega
  rw [shownWord, inactive, if_neg Bool.false_ne_true]

end Shown

/-- The cells at the even position `x` and after it are the two pixels of the word shown there. -/
def ShowsRow (s : State) (w : ActiveWindow) (y : Nat) (a : Word) (width : Nat)
    (row : List (Option Rgb)) : Prop :=
  ∀ x, x % 2 = 0 → x < width →
    row[x]? = some (some (pairPixels s.cfg.csc (shownWord s w y a x)).1)
      ∧ row[x + 1]? = some (some (pairPixels s.cfg.csc (shownWord s w y a x)).2)

theorem showsRow_lineBegin {s : State} {w : ActiveWindow} {y : Nat} {a : Word} {width : Nat}
    {row : List (Option Rgb)} (shows : ShowsRow s.lineBegin w y a width row) :
    ShowsRow s w y a width row := by
  have sameWord (x : Nat) : shownWord s.lineBegin w y a x = shownWord s w y a x := by
    rw [shownWord, unfetchedWord_lineBegin, lineBegin_cfg, lineBegin_mem, shownWord]
  intro x even inRow
  rw [← sameWord, ← lineBegin_cfg s]
  exact shows x even inRow

/-- Every pixel outside the window, of either half of its pair, has the colour of an unfetched
pair. -/
theorem ShowsRow.outside {s : State} {w : ActiveWindow} {y : Nat} {a : Word} {width : Nat}
    {row : List (Option Rgb)} (shows : ShowsRow s w y a width row) (sizeEven : w.hsize % 2 = 0)
    {x : Nat} (inRow : x < width) (outside : x < w.left ∨ w.left + w.hsize ≤ x) :
    row[x]? = some (some (unfetchedPixel s)) := by
  have leftEven : w.left % 2 = 0 := by
    rw [ActiveWindow.left]
    omega
  obtain ⟨first, second⟩ := shows (x - x % 2) (by omega) (by omega)
  rw [shownWord_outside sizeEven s a (by omega) (by omega), pairPixels_unfetchedWord]
    at first second
  rcases Nat.mod_two_eq_zero_or_one x with even | odd
  · rwa [even, Nat.sub_zero] at first
  · rwa [odd, Nat.sub_add_cancel (by omega)] at second

/-! ## A row with room in the buffer -/

section LineRow
variable {s : State} (wf : s.cfg.Wf) (enabled : fetchEnabled s = true)
  (above : (window s).vstart ≤ s.line) (below : s.line < (window s).vstart + (window s).vsize)
include wf enabled above below

/-- Where the buffer has room for the row, it is produced: it shows its words and the cursor ends
after them. -/
theorem pairCells_of_room (room : s.HasRoom s.cursor (2 * (window s).hsize)) :
    ∃ row, pairCells s (window s) s.line (s.cfg.screenWidth / 2) 0 s.cursor
        = .ok (row, s.cursor + BitVec.ofNat 32 (2 * (window s).hsize))
      ∧ row.length = s.cfg.screenWidth
      ∧ ShowsRow s (window s) s.line s.cursor s.cfg.screenWidth row := by
  have visible : s.line < s.cfg.screenHeight := below.trans_le (window_vertical s).fits
  have bytes : lineBytes (window s) s.line = 2 * (window s).hsize := by
    simp [lineBytes, ActiveWindow.crosses, above, below]
  have sizeEven := (window_horizontal s).even
  have wholeRow := rowBytes_screen wf s.line
  obtain ⟨⟨-, widthEven, -⟩, -⟩ := id wf
  cases produced : pairCells s (window s) s.line (s.cfg.screenWidth / 2) 0 s.cursor with
  | error f =>
    have failed : s.lineRow = .error f := by
      rw [State.lineRow, if_pos visible, produceRow, produced]
    obtain ⟨j, aligned, inside, error⟩ := lineRow_error_fetch wf enabled failed
    exact absurd error (fetch_ne_error room aligned (bytes ▸ inside) f)
  | ok result =>
    obtain ⟨row, b⟩ := result
    have fromStart : pairCells s (window s) s.line (s.cfg.screenWidth / 2) 0
        (s.cursor + BitVec.ofNat 32 (rowBytes (window s) s.line 0)) = .ok (row, b) := by
      simpa [rowBytes_zero] using produced
    have moved := pairCells_ok_cursor enabled sizeEven rfl fromStart
    rw [wholeRow, bytes] at moved
    refine ⟨row, by rw [moved], ?_, fun x even inRow => ?_⟩
    · rw [pairCells_ok_length produced, Nat.mul_div_cancel' (Nat.dvd_of_mod_eq_zero widthEven)]
    · have cells := pairCells_ok_cells enabled sizeEven rfl fromStart (j := x / 2) (by omega)
      rwa [Nat.zero_add, Nat.mul_div_cancel' (Nat.dvd_of_mod_eq_zero even)] at cells

end LineRow

/-- Settles O41: the row is produced from the state at the start of the step, in which the
descriptor and cursor in force are the current ones. -/
theorem activeRowShowsHostMemory : Obligations.ActiveRowShowsHostMemory := by
  unfold Obligations.ActiveRowShowsHostMemory
  intro s wf clean output dma w boot first size a left valid above below aligned start room inMemory
  have same := lineBegin_sameSetup s
  have enabled : fetchEnabled s.lineBegin = true := by
    have validNow : (s.cvalid || s.promotesNow) = true := Bool.or_eq_true_iff.mpr valid.symm
    rw [fetchEnabled_lineBegin_eq, output, dma, validNow]
    rfl
  obtain ⟨cstart, csize, -, cursor⟩ := lineBegin_current s
  have hasRoom : s.lineBegin.HasRoom s.lineBegin.cursor (2 * (window s.lineBegin).hsize) := by
    rw [cursor, same.window]
    exact ⟨aligned, cstart ▸ start, by rw [cstart, csize]; exact room, inMemory⟩
  obtain ⟨row, produced, length, shows⟩ := pairCells_of_room (same.cfg ▸ wf) enabled
    (by rwa [same.window, lineBegin_line]) (by rwa [same.window, lineBegin_line]) hasRoom
  rw [same.window, lineBegin_line, same.cfg] at produced shows
  rw [same.cfg] at length
  have visible : s.line < s.cfg.screenHeight := below.trans_le (window_vertical s).fits
  obtain ⟨noFault, fb, moved⟩ := lineStep_of_cells clean visible produced
  have shown := showsRow_lineBegin shows
  have horizontal := window_horizontal s
  refine ⟨_, row, rfl, noFault, fb, length, by rw [moved, cursor]; rfl, ?_,
    fun x inRow outside => shown.outside horizontal.even inRow outside⟩
  intro k (inside : 2 * k < (window s).hsize)
  have fits := horizontal.fits
  have sizeEven := horizontal.even
  obtain ⟨⟨-, widthEven, -⟩, -⟩ := wf
  have pair := shown ((window s).left + 2 * k) (by rw [ActiveWindow.left]; omega)
    (by rw [ActiveWindow.left]; omega)
  rwa [shownWord_inside sizeEven s above below _ inside, cursor] at pair

end Sys2Proof.Machine

/-! PROOFS. The machine invariant (10 R48, 42 R193, 60 R241). `FrameProduced` is the invariant's
part about the frame as a line step advances it; every transaction but LINE and RESET is a
`RegisterStep`, which leaves all of the invariant but the current descriptor alone. -/

namespace Sys2Proof.Machine

/-! ## The frame, line by line -/

/-- The frame has the configured shape, and its first `n` rows are complete. -/
structure FrameProduced (cfg : Config) (n : Nat) (fb : Frame) : Prop where
  height : fb.length = cfg.screenHeight
  width : ∀ row ∈ fb, row.length = cfg.screenWidth
  rows : ∀ row ∈ fb.take n, RowComplete cfg row

theorem FrameProduced.set {cfg : Config} {n : Nat} {fb : Frame} (produced : FrameProduced cfg n fb)
    {row : List (Option Rgb)} (complete : RowComplete cfg row) (visible : n < cfg.screenHeight) :
    FrameProduced cfg (n + 1) (fb.set n row) := by
  refine ⟨by rw [List.length_set, produced.height], fun other listed => ?_, fun other listed => ?_⟩
  · rcases List.mem_or_eq_of_mem_set listed with old | rfl
    · exact produced.width other old
    · exact complete.1
  · rw [List.take_add_one, List.take_set_of_le le_rfl,
      List.getElem?_set_self (by rwa [produced.height]), List.mem_append] at listed
    rcases listed with old | new
    · exact produced.rows other old
    · obtain rfl : other = row := by simpa using new
      exact complete

theorem FrameProduced.mono_of_whole {cfg : Config} {n m : Nat} {fb : Frame}
    (produced : FrameProduced cfg n fb) (whole : cfg.screenHeight ≤ n) :
    FrameProduced cfg m fb := by
  refine ⟨produced.height, produced.width, fun row listed => produced.rows row ?_⟩
  rw [List.take_of_length_le (by rwa [produced.height])]
  exact List.mem_of_mem_take listed

theorem FrameProduced.complete {cfg : Config} {n : Nat} {fb : Frame}
    (produced : FrameProduced cfg n fb) (whole : cfg.screenHeight ≤ n) : FrameComplete cfg fb := by
  have rows := produced.rows
  rw [List.take_of_length_le (by rwa [produced.height])] at rows
  exact ⟨produced.height, rows⟩

theorem pairCells_ok_isSome {s : State} {w : ActiveWindow} {y n x : Nat} {a b : Word}
    {cells : List (Option Rgb)} (ok : pairCells s w y n x a = .ok (cells, b)) :
    ∀ c ∈ cells, c.isSome = true := by
  induction n generalizing x a cells with
  | zero => cases ok; simp
  | succ n ih =>
    obtain ⟨v, a', rest, -, tail, rfl⟩ := pairCells_succ_ok ok
    simpa using ih tail

/-- A row of the line step completes the row of its line, or there is none beyond the screen. -/
theorem lineRow_frameProduced {s t : State} (wf : s.cfg.Wf)
    (produced : FrameProduced s.cfg s.line s.fb) (ok : s.lineRow = .ok t) :
    FrameProduced s.cfg (s.line + 1) t.fb := by
  obtain ⟨⟨-, widthEven, -⟩, -⟩ := wf
  rcases lineRow_cases s with ⟨visible, row⟩ | ⟨beyond, noRow⟩
  · obtain ⟨cells, a, pairs, rfl⟩ := produceRow_ok (row ▸ ok)
    have length := pairCells_ok_length pairs
    rw [Nat.mul_div_cancel' (Nat.dvd_of_mod_eq_zero widthEven)] at length
    exact produced.set ⟨length, pairCells_ok_isSome pairs⟩ visible
  · cases noRow.symm.trans ok
    exact produced.mono_of_whole beyond

theorem lineStep_frameProduced {s : State} (wf : s.cfg.Wf)
    (produced : FrameProduced s.cfg s.line s.fb) (noFault : s.lineStep.faults = []) :
    FrameProduced s.cfg (s.line + 1) s.lineStep.fb := by
  obtain ⟨fb, cursor, row, ended⟩ := lineStep_noFault noFault
  have sameCfg := lineBegin_cfg s
  have next := lineRow_frameProduced (s := s.lineBegin) (sameCfg ▸ wf)
    (by rwa [sameCfg, lineBegin_line, lineBegin_fb]) row
  rwa [sameCfg, lineBegin_line, ← lineEnd_fb, ← ended] at next

/-! ## The current descriptor before a promotion -/

theorem lineRow_cursor_of_not_enabled {s t : State} (disabled : fetchEnabled s = false)
    (ok : s.lineRow = .ok t) : t.cursor = s.cursor := by
  rcases lineRow_cases s with ⟨-, row⟩ | ⟨-, noRow⟩
  · obtain ⟨cells, a, pairs, rfl⟩ := produceRow_ok (row ▸ ok)
    rw [pairCells_unfetched fun _ => by rw [disabled, Bool.false_and]] at pairs
    cases pairs
    rfl
  · cases noRow.symm.trans ok
    rfl

theorem State.CurrentOk.of_same {s t : State} (ok : s.CurrentOk) (same : SameCurrent s t) :
    t.CurrentOk := by
  obtain ⟨cstart, csize, cvalid, cursor⟩ := same
  rwa [State.CurrentOk, cstart, csize, cvalid, cursor]

theorem lineBegin_currentOk {s : State} (ok : s.CurrentOk) : s.lineBegin.CurrentOk := by
  rcases lineBegin_cases s with ⟨-, -, promoted⟩ | ⟨-, same⟩
  · rw [State.CurrentOk, promoted]
    simp
  · rw [same]
    exact ok.of_same ⟨by simp, by simp, by simp, by simp⟩

/-- Without a valid descriptor nothing is fetched, so that a row does not move the cursor. -/
theorem lineRow_currentOk {s t : State} (ok : s.CurrentOk) (row : s.lineRow = .ok t) :
    t.CurrentOk := by
  have cursor (invalid : s.cvalid = false) : t.cursor = s.cursor :=
    lineRow_cursor_of_not_enabled (by simp [fetchEnabled, invalid]) row
  obtain ⟨fb, a, rfl⟩ := lineRow_withRow row
  intro invalid
  obtain ⟨cstart, csize, zero⟩ := ok invalid
  exact ⟨cstart, csize, (cursor invalid).trans zero⟩

theorem lineStep_currentOk {s : State} (ok : s.CurrentOk) (noFault : s.lineStep.faults = []) :
    s.lineStep.CurrentOk := by
  obtain ⟨fb, cursor, row, ended⟩ := lineStep_noFault noFault
  rw [ended]
  exact (lineRow_currentOk (lineBegin_currentOk ok) row).of_same (lineEnd_sameCurrent _)

/-! ## The invariant of a line step -/

theorem State.PublishedComplete.frame {s t : State} (ok : s.PublishedComplete) (cfg : t.cfg = s.cfg)
    {fb : Frame} (output : t.output = s.output ++ [.frameDone fb])
    (complete : FrameComplete s.cfg fb) :
    t.PublishedComplete := by
  intro o listed
  rw [output, List.mem_append, List.mem_singleton] at listed
  rw [cfg]
  rcases listed with old | rfl
  · exact ok o old
  · exact complete

theorem State.PublishedComplete.results {s t : State} (ok : s.PublishedComplete)
    (cfg : t.cfg = s.cfg) {results : List Word}
    (output : t.output = s.output ++ results.map .readResult) :
    t.PublishedComplete := by
  intro o listed
  rw [output, List.mem_append, List.mem_map] at listed
  rw [cfg]
  rcases listed with old | ⟨v, -, rfl⟩
  · exact ok o old
  · trivial

theorem lineStep_published {s : State} (inv : s.Inv) (noFault : s.lineStep.faults = []) :
    s.lineStep.PublishedComplete := by
  have produced := lineStep_frameProduced inv.cfg ⟨inv.shape.1, inv.shape.2, inv.rows⟩ noFault
  obtain ⟨⟨-, -, -, allVisible, -⟩, -⟩ := inv.cfg
  rcases lineStep_progress (totalLines_pos inv.cfg) noFault with
    ⟨last, -, -, output⟩ | ⟨-, -, -, output⟩
  · exact inv.published.frame (lineStep_cfg s) output (produced.complete (by omega))
  · exact inv.published.results (results := []) (lineStep_cfg s) (by simp [output])

/-- A line step that records no fault completes its row and goes on to the next line or the next
frame. -/
theorem lineStep_inv_of_noFault {s : State} (inv : s.Inv) (noFault : s.lineStep.faults = []) :
    s.lineStep.Inv := by
  have produced := lineStep_frameProduced inv.cfg ⟨inv.shape.1, inv.shape.2, inv.rows⟩ noFault
  have inRange := inv.line
  have progress := lineStep_progress (totalLines_pos inv.cfg) noFault
  refine
    { cfg := by rw [lineStep_cfg]; exact inv.cfg
      mem := by rw [lineStep_mem]; exact inv.mem
      line := ?_
      shape := by rw [State.FrameShape, lineStep_cfg]; exact ⟨produced.height, produced.width⟩
      rows := ?_
      published := lineStep_published inv noFault
      faults := by rw [State.FaultsOk, noFault]; simp
      current := lineStep_currentOk inv.current noFault }
  · rw [lineStep_cfg]
    rcases progress with ⟨-, line, -⟩ | ⟨notLast, line, -⟩ <;> omega
  · rcases progress with ⟨-, line, -⟩ | ⟨-, line, -⟩
    · rw [State.ProducedRows, line]
      simp
    · rw [State.ProducedRows, line, lineStep_cfg]
      exact produced.rows

theorem State.Inv.record {s : State} (inv : s.Inv) {f : FaultRecord} (justified : f.Justified) :
    State.Inv { s with faults := [f] } :=
  { inv with faults := ⟨le_rfl, List.forall_mem_singleton.mpr justified⟩ }

theorem lineStep_inv {s : State} (inv : s.Inv) : s.lineStep.Inv := by
  by_cases clean : s.faults = []
  · rcases lineStep_records_one clean with noFault | ⟨f, justified, recorded⟩
    · exact lineStep_inv_of_noFault inv noFault
    · exact recorded ▸ inv.record justified
  · have same : s.lineStep = s := if_neg clean
    exact same.symm ▸ inv

/-! ## Reset and the registers -/

theorem blankFrame_shape (cfg : Config) :
    (blankFrame cfg).length = cfg.screenHeight
      ∧ ∀ row ∈ blankFrame cfg, row.length = cfg.screenWidth := by
  refine ⟨List.length_replicate, fun row listed => ?_⟩
  rw [List.eq_of_mem_replicate listed, List.length_replicate]

theorem powerOn_inv {cfg : Config} (wf : cfg.Wf) : (State.powerOn cfg).Inv where
  cfg := wf
  mem := powerOn_mem_wf cfg
  line := totalLines_pos wf
  shape := blankFrame_shape cfg
  rows := nofun
  published := nofun
  faults := ⟨Nat.zero_le 1, nofun⟩
  current := fun _ => ⟨rfl, rfl, rfl⟩

/-- Settles O54: every list of the power-on state is empty but the frame, which is blank. -/
theorem resetMeetsTheInvariant : Obligations.ResetMeetsTheInvariant := by
  unfold Obligations.ResetMeetsTheInvariant
  exact ⟨fun _ => powerOn_inv, powerOn_inv (by decide)⟩

theorem resetEvent_inv {s : State} (inv : s.Inv) : s.resetEvent.Inv :=
  have fresh := powerOn_inv inv.cfg
  ⟨inv.cfg, inv.mem, fresh.line, fresh.shape, fresh.rows, inv.published, inv.faults, fresh.current⟩

theorem exec_currentOk {i : Instr} {s t : State} (ok : s.CurrentOk) (notLine : i ≠ .line)
    (notReset : i ≠ .reset) (next : exec i s = .next t) : t.CurrentOk := by
  rcases onlyPromotionChangesCurrentDescriptor i s t next notLine notReset with
    same | ⟨-, -, -, -, valid, -⟩
  · exact ok.of_same same
  · intro invalid
    rw [valid] at invalid
    contradiction

/-- A register transaction leaves everything of the invariant but the current descriptor. -/
theorem exec_inv_of_registerStep {i : Instr} {s t : State} (inv : s.Inv) (notLine : i ≠ .line)
    (notReset : i ≠ .reset) (next : exec i s = .next t) : t.Inv := by
  have cfg := exec_cfg next
  obtain ⟨mem, -, line, fb, results, output⟩ := exec_registerStep notLine notReset next
  exact
    { cfg := by rw [cfg]; exact inv.cfg
      mem := by rw [mem]; exact inv.mem
      line := by rw [line, cfg]; exact inv.line
      shape := by rw [State.FrameShape, fb, cfg]; exact inv.shape
      rows := by rw [State.ProducedRows, fb, line, cfg]; exact inv.rows
      published := inv.published.results cfg output
      faults := by rw [State.FaultsOk, exec_faults notLine next]; exact inv.faults
      current := exec_currentOk inv.current notLine notReset next }

theorem exec_inv {i : Instr} {s t : State} (inv : s.Inv) (next : exec i s = .next t) : t.Inv := by
  by_cases isLine : i = .line
  · subst isLine
    cases next
    exact lineStep_inv inv
  by_cases isReset : i = .reset
  · subst isReset
    cases next
    exact resetEvent_inv inv
  · exact exec_inv_of_registerStep inv isLine isReset next

theorem State.Inv.dropInput {s : State} (inv : s.Inv) (rest : List Input) :
    State.Inv { s with inbox := rest } := { inv with }

theorem hostStore_inv {s : State} (inv : s.Inv) (addr : Word) (value : Byte) :
    (hostStore addr value s).Inv := { inv with mem := hostStore_wf addr value inv.mem }

/-- Settles O53: a step is idle, a store of the host, or a transaction, and each keeps the
invariant. -/
theorem stepKeepsTheInvariant : Obligations.StepKeepsTheInvariant := by
  unfold Obligations.StepKeepsTheInvariant
  intro s t inv next
  rcases step_cases s with ⟨-, idle⟩ | ⟨addr, value, rest, -, stored⟩ | ⟨x, rest, -, ran⟩
  · cases idle.symm.trans next
    exact inv
  · cases stored.symm.trans next
    exact hostStore_inv (inv.dropInput rest) addr value
  · exact exec_inv (inv.dropInput rest) (ran ▸ next)

end Sys2Proof.Machine
